-- ==== Sys2Proof/Word.lean ====
section
/-! DEFINITION. Words, bytes and the four controller handles (00_scope R8, R11; 10_state R21). -/

namespace Sys2Proof

/-- A register value: XLEN = 32 bits, unsigned, arithmetic modulo 2^32 (R8, R11). -/
abbrev Word := BitVec 32

/-- A byte: one frame, FRAME_BITS = 8 (R8). -/
abbrev Byte := BitVec 8

/-- A controller handle: one of the four constants, bound to one instance each (R21). -/
inductive Handle where
  | spi1
  | spi2
  | spi3
  | spi4
  deriving DecidableEq, Repr, Inhabited

/-- The two bits that spell a handle: ACC.BLK[13:12] and CMD.H (R81, R83). -/
def Handle.toBits : Handle → BitVec 2
  | .spi1 => 0
  | .spi2 => 1
  | .spi3 => 2
  | .spi4 => 3

/-- The handle two bits spell; every value spells one (R81, R83). -/
def Handle.ofBits (b : BitVec 2) : Handle :=
  if b = 0 then .spi1 else if b = 1 then .spi2 else if b = 2 then .spi3 else .spi4

/-- All four handles, in the order of the decode loop of R61. -/
def Handle.all : List Handle := [.spi1, .spi2, .spi3, .spi4]

/-- One value for each of the four instances: they share no state (R9, R20). -/
structure PerHandle (α : Type) where
  spi1 : α
  spi2 : α
  spi3 : α
  spi4 : α
  deriving DecidableEq, Repr, Inhabited

/-- The value of one instance. -/
def PerHandle.get {α : Type} (v : PerHandle α) : Handle → α
  | .spi1 => v.spi1
  | .spi2 => v.spi2
  | .spi3 => v.spi3
  | .spi4 => v.spi4

/-- The four values with that of one instance replaced. -/
def PerHandle.set {α : Type} (v : PerHandle α) (h : Handle) (a : α) : PerHandle α :=
  match h with
  | .spi1 => { v with spi1 := a }
  | .spi2 => { v with spi2 := a }
  | .spi3 => { v with spi3 := a }
  | .spi4 => { v with spi4 := a }

/-- The same value for all four instances. -/
def PerHandle.all {α : Type} (a : α) : PerHandle α := ⟨a, a, a, a⟩

@[simp] theorem PerHandle.get_set_self {α : Type} (v : PerHandle α) (h : Handle) (a : α) :
    (v.set h a).get h = a := by
  cases h <;> rfl

theorem PerHandle.get_set_of_ne {α : Type} (v : PerHandle α) {h k : Handle} (a : α) (hk : k ≠ h) :
    (v.set h a).get k = v.get k := by
  cases h <;> cases k <;> first | rfl | exact absurd rfl hk

@[simp] theorem PerHandle.set_get_self {α : Type} (v : PerHandle α) (h : Handle) :
    v.set h (v.get h) = v := by
  cases h <;> rfl

@[simp] theorem PerHandle.get_all {α : Type} (a : α) (h : Handle) : (PerHandle.all a).get h = a := by
  cases h <;> rfl

@[simp] theorem PerHandle.set_set_self {α : Type} (v : PerHandle α) (h : Handle) (a b : α) :
    (v.set h a).set h b = v.set h b := by
  cases h <;> rfl

@[simp] theorem Handle.ofBits_toBits (h : Handle) : Handle.ofBits h.toBits = h := by
  cases h <;> rfl

theorem Handle.toBits_ofBits (b : BitVec 2) : (Handle.ofBits b).toBits = b := by
  revert b; decide

end Sys2Proof
end

