-- ==== Sys2Proof/Config.lean ====
section
/-! DEFINITION. The parameters of 00_scope R8, the agents and turns of R10, and the free values (draws) of R11.

The layout parameters (bases, offsets, bit positions, FIFO_DEPTH, BLK_SIZE_BITS) are arguments of the model (R8, D2, U29):
they are plain data in `State.cfg`, which no step writes. Their defaults are the spec's own, marked there
"from general knowledge, not in source"; log entry 3. -/

namespace Sys2Proof.Config

/-! ## Constants the source gives (R8) -/

/-- SEND_LEN: the byte count SEND accepts. -/
def sendLen : Nat := 4

/-- T_SETTLE_US: the delay between the last register write and the PIO trigger. -/
def tSettleUs : Nat := 2

/-- T_TRIGGER_US: the delay between the PIO trigger and the dummy read. -/
def tTriggerUs : Nat := 1

/-- The span of the Time Base's decode (R61, D2). -/
def tmrSpan : Nat := 0x40

/-! ## Layout parameters (R8, 10_state R29, R32, R34, R35; 60_exceptions R221) -/

/-- Bases and offsets of the register blocks (R8, R68, R221). -/
structure BusLayout where
  spiBase       : PerHandle Word
  spiBlockBytes : Nat
  offCommand1   : BitVec 12
  offTransStatus : BitVec 12
  offFifoStatus : BitVec 12
  offBlkSize    : BitVec 12
  offTxFifo     : BitVec 12
  offRxFifo     : BitVec 12
  tmrBase       : Word
  offCntr1us    : BitVec 12
  offUsecCfg    : BitVec 12
  offCntrFreeze : BitVec 12
  deriving DecidableEq, Repr

/-- The lowest bit of each field of `COMMAND1`; bits of no field are reserved (R29). -/
structure Command1Layout where
  pio           : Nat
  mS            : Nat
  mode          : Nat
  csSel         : Nat
  csPolInactive : Nat
  csSwHw        : Nat
  csSwVal       : Nat
  idleSda       : Nat
  bidiroe       : Nat
  lsbitFe       : Nat
  lsbyteFe      : Nat
  bothEnBit     : Nat
  bothEnByte    : Nat
  rxEn          : Nat
  txEn          : Nat
  packed        : Nat
  bitLength     : Nat
  deriving DecidableEq, Repr

/-- The lowest bit of each field of `FIFO_STATUS` that is not a draw (R34). -/
structure FifoStatusLayout where
  rxFullCount  : Nat
  txEmptyCount : Nat
  rxFlush      : Nat
  txFlush      : Nat
  err          : Nat
  txOvf        : Nat
  txUnf        : Nat
  rxOvf        : Nat
  rxUnf        : Nat
  txFull       : Nat
  txEmpty      : Nat
  rxFull       : Nat
  rxEmpty      : Nat
  deriving DecidableEq, Repr

/-- F_REF: the Time Base reference clock, one of two (R8). -/
inductive RefClock where
  | mhz12
  | mhz38_4
  deriving DecidableEq, Repr

/-- The two fields of `USEC_CFG` (R221). -/
structure UsecCfg where
  dividend : Byte
  divisor  : Byte
  deriving DecidableEq, Repr

/-- The lowest bit of each field of the Time Base registers that is not a draw, and CFG(F_REF) for each clock (R221, R223). -/
structure TimeBaseLayout where
  usecDivisor  : Nat
  usecDividend : Nat
  freezeCpu0   : Nat
  freezeCpu1   : Nat
  freezeCpu2   : Nat
  freezeCpu3   : Nat
  freezeCop    : Nat
  cfg12        : UsecCfg
  cfg38_4      : UsecCfg
  deriving DecidableEq, Repr

/-- The parameters the model takes as an argument (R8). -/
structure Params where
  bus         : BusLayout
  command1    : Command1Layout
  fifoStatus  : FifoStatusLayout
  /-- The position of `TRANS_STATUS.RDY` (R32). -/
  rdy         : Nat
  /-- FIFO_DEPTH (R38). -/
  fifoDepth   : Nat
  /-- BLK_SIZE_BITS (R35). -/
  blkSizeBits : Nat
  timeBase    : TimeBaseLayout
  fRef        : RefClock
  deriving DecidableEq, Repr

/-- The defaults of R8, R29, R32, R34, R221 and R223; F_REF is the one the examples of R223 use (log entries 3 and 4). -/
def defaults : Params where
  bus := {
    spiBase := ⟨0x7000D400, 0x7000D600, 0x7000D800, 0x7000DA00⟩
    spiBlockBytes := 0x200
    offCommand1 := 0x000
    offTransStatus := 0x010
    offFifoStatus := 0x014
    offBlkSize := 0x024
    offTxFifo := 0x108
    offRxFifo := 0x188
    tmrBase := 0x60005010
    offCntr1us := 0x000
    offUsecCfg := 0x004
    offCntrFreeze := 0x03C }
  command1 := {
    pio := 31
    mS := 30
    mode := 28
    csSel := 26
    csPolInactive := 22
    csSwHw := 21
    csSwVal := 20
    idleSda := 18
    bidiroe := 17
    lsbitFe := 16
    lsbyteFe := 15
    bothEnBit := 14
    bothEnByte := 13
    rxEn := 12
    txEn := 11
    packed := 5
    bitLength := 0 }
  fifoStatus := {
    rxFullCount := 23
    txEmptyCount := 16
    rxFlush := 15
    txFlush := 14
    err := 8
    txOvf := 7
    txUnf := 6
    rxOvf := 5
    rxUnf := 4
    txFull := 3
    txEmpty := 2
    rxFull := 1
    rxEmpty := 0 }
  rdy := 30
  fifoDepth := 64
  blkSizeBits := 16
  timeBase := {
    usecDivisor := 0
    usecDividend := 8
    freezeCpu0 := 0
    freezeCpu1 := 1
    freezeCpu2 := 2
    freezeCpu3 := 3
    freezeCop := 4
    cfg12 := ⟨0, 11⟩
    cfg38_4 := ⟨4, 191⟩ }
  fRef := .mhz38_4

/-! ## Agents and turns (R10) -/

/-- Who performs a step (R10). A fault is recorded with the agent that raised it (R213). -/
inductive Agent where
  | engine (h : Handle)
  | controller (h : Handle)
  | time
  | host
  /-- A bus master other than an engine, for example a test harness (R10). -/
  | master (m : Nat)
  deriving DecidableEq, Repr, Inhabited

/-- What a bus master issues. -/
inductive Access where
  /-- A physical access: address, width in bits, and the data of a write or none for a read (R61 to R63, R82). -/
  | phys (addr : Word) (width : Nat) (write : Option Word)
  /-- An access descriptor with its data operand, which a read ignores (R80, R81). -/
  | acc (desc : BitVec 16) (data : Word)
  deriving DecidableEq, Repr, Inhabited

/-- Whose step comes next, with what the outside supplies to it. The controller's four steps are separate (R143, R147, R149);
the peripheral has no step of its own (R10). -/
inductive Turn where
  | engine (h : Handle)
  | frame (h : Handle)
  | complete (h : Handle)
  | flushTx (h : Handle)
  | flushRx (h : Handle)
  | time
  /-- The host hands the word `c`, and SEND's byte list, to the engine the word names (R170). -/
  | host (c : Word) (bytes : List Byte)
  | master (m : Nat) (a : Access)
  deriving DecidableEq, Repr, Inhabited

/-! ## Free values

No body: nothing can be proved of what they are (R11: "any value" means a draw). -/

/-- The `n`-th free word (log entry 2). -/
opaque freeWord : Nat → Word

/-- The `n`-th free choice of whose turn it is: any interleaving (R10, U19), with any access or command the outside may
issue (log entry 1). -/
opaque freeTurn : Nat → Turn

end Sys2Proof.Config
end

