-- ==== Sys2Proof/Syntax.lean ====
section
/-! DEFINITION. The instructions: one constructor per row of `spec/opcode_table.json` (30_encoding R86, R88). -/

namespace Sys2Proof

/-- A bus access of one register (R86) or an engine command (R88). `h` is the controller or engine handle (ACC.BLK[13:12],
CMD.H), `d` the 32-bit DATA operand of a write, `len` CMD.LEN, `bytes` SEND's byte-list operand. -/
inductive Instr where
  | rdCommand1 (h : Handle)
  | wrCommand1 (h : Handle) (d : Word)
  | rdTransStatus (h : Handle)
  | wrTransStatus (h : Handle) (d : Word)
  | rdFifoStatus (h : Handle)
  | wrFifoStatus (h : Handle) (d : Word)
  | rdBlkSize (h : Handle)
  | wrBlkSize (h : Handle) (d : Word)
  | wrTxFifo (h : Handle) (d : Word)
  | rdRxFifo (h : Handle)
  | rdTmrCntr1us
  | wrTmrCntr1us (d : Word)
  | rdTmrUsecCfg
  | wrTmrUsecCfg (d : Word)
  | rdTmrCntrFreeze
  | wrTmrCntrFreeze (d : Word)
  | init (h : Handle)
  | flushFifos (h : Handle)
  | send (h : Handle) (len : BitVec 16) (bytes : List Byte)
  | receive (h : Handle) (len : BitVec 16)
  deriving DecidableEq, Repr

end Sys2Proof
end

