-- ==== Sys2Proof/WellFormed.lean ====
section
/-! DEFINITION. What is well formed: the words of the opcode table (30_encoding R86, R88) and the parameters (R8).

Every term of `Instr` is well formed: its handle, its data and its LEN have exactly the widths of their fields, and a SEND
whose byte list has another length than LEN is a well-formed command (R88). What can be ill formed is a word an outside
agent issues, and a choice of parameters. -/

namespace Sys2Proof

/-- One row of the opcode map: a word spells it when its bits under the mask are `pattern`. -/
structure TableRow (w : Nat) where
  mnemonic : String
  pattern  : BitVec w
  mask     : BitVec w
  deriving DecidableEq, Repr

/-- Whether a word spells the row. -/
def TableRow.fits {w : Nat} (r : TableRow w) (x : BitVec w) : Bool := x &&& r.mask == r.pattern

/-- The `ACC` opcode map at the default offsets (R86). -/
def accTable : List (TableRow 16) := [
  ⟨"RD.COMMAND1", 0x0000, 0xCFFF⟩,
  ⟨"WR.COMMAND1", 0x8000, 0xCFFF⟩,
  ⟨"RD.TRANS_STATUS", 0x0010, 0xCFFF⟩,
  ⟨"WR.TRANS_STATUS", 0x8010, 0xCFFF⟩,
  ⟨"RD.FIFO_STATUS", 0x0014, 0xCFFF⟩,
  ⟨"WR.FIFO_STATUS", 0x8014, 0xCFFF⟩,
  ⟨"RD.BLK_SIZE", 0x0024, 0xCFFF⟩,
  ⟨"WR.BLK_SIZE", 0x8024, 0xCFFF⟩,
  ⟨"WR.TX_FIFO", 0x8108, 0xCFFF⟩,
  ⟨"RD.RX_FIFO", 0x0188, 0xCFFF⟩,
  ⟨"RD.TMR_CNTR_1US", 0x4000, 0xFFFF⟩,
  ⟨"WR.TMR_CNTR_1US", 0xC000, 0xFFFF⟩,
  ⟨"RD.TMR_USEC_CFG", 0x4004, 0xFFFF⟩,
  ⟨"WR.TMR_USEC_CFG", 0xC004, 0xFFFF⟩,
  ⟨"RD.TMR_CNTR_FREEZE", 0x403C, 0xFFFF⟩,
  ⟨"WR.TMR_CNTR_FREEZE", 0xC03C, 0xFFFF⟩]

/-- The `CMD` opcode map (R88). -/
def cmdTable : List (TableRow 32) := [
  ⟨"INIT", 0x00000000, 0xFFFFFFF3⟩,
  ⟨"FLUSH_FIFOS", 0x00000001, 0xFFFFFFF3⟩,
  ⟨"SEND", 0x00000002, 0x0000FFF3⟩,
  ⟨"RECEIVE", 0x00000003, 0x0000FFF3⟩]

/-- A descriptor is well formed when it matches a row (R87: one that matches no row spells no instruction). -/
def accWellFormed (d : BitVec 16) : Bool := accTable.any (·.fits d)

/-- A command word is well formed when it matches a row: RSV = 0, and LEN = 0 for INIT and FLUSH_FIFOS (R88). -/
def cmdWellFormed (c : Word) : Bool := cmdTable.any (·.fits c)

namespace Config

/-- The fields of `COMMAND1` as (lowest bit, width), PIO first (R29). -/
def Command1Layout.fields (l : Command1Layout) : List (Nat × Nat) :=
  [(l.pio, 1), (l.mS, 1), (l.mode, 2), (l.csSel, 2), (l.csPolInactive, 4), (l.csSwHw, 1), (l.csSwVal, 1),
   (l.idleSda, 2), (l.bidiroe, 1), (l.lsbitFe, 1), (l.lsbyteFe, 1), (l.bothEnBit, 1), (l.bothEnByte, 1),
   (l.rxEn, 1), (l.txEn, 1), (l.packed, 1), (l.bitLength, 5)]

/-- The fields of `FIFO_STATUS` that are not draws, as (lowest bit, width) (R34). -/
def FifoStatusLayout.fields (l : FifoStatusLayout) : List (Nat × Nat) :=
  [(l.rxFullCount, 7), (l.txEmptyCount, 7), (l.rxFlush, 1), (l.txFlush, 1), (l.err, 1), (l.txOvf, 1), (l.txUnf, 1),
   (l.rxOvf, 1), (l.rxUnf, 1), (l.txFull, 1), (l.txEmpty, 1), (l.rxFull, 1), (l.rxEmpty, 1)]

/-- The fields of `USEC_CFG` as (lowest bit, width) (R221). -/
def TimeBaseLayout.usecFields (l : TimeBaseLayout) : List (Nat × Nat) := [(l.usecDivisor, 8), (l.usecDividend, 8)]

/-- The fields of `CNTR_FREEZE` as (lowest bit, width) (R221). -/
def TimeBaseLayout.freezeFields (l : TimeBaseLayout) : List (Nat × Nat) :=
  [(l.freezeCpu0, 1), (l.freezeCpu1, 1), (l.freezeCpu2, 1), (l.freezeCpu3, 1), (l.freezeCop, 1)]

/-- Two intervals, given as (start, length), share no point. -/
def apart (a b : Nat × Nat) : Bool := a.1 + a.2 ≤ b.1 || b.1 + b.2 ≤ a.1

/-- Fields that lie in a 32-bit register and share no bit. -/
def fieldsFit (fs : List (Nat × Nat)) : Bool :=
  fs.all (fun f => f.1 + f.2 ≤ 32) && decide (fs.Pairwise (fun a b => apart a b = true))

/-- The six register offsets of a controller block (R68). -/
def BusLayout.spiOffsets (l : BusLayout) : List (BitVec 12) :=
  [l.offCommand1, l.offTransStatus, l.offFifoStatus, l.offBlkSize, l.offTxFifo, l.offRxFifo]

/-- The three register offsets of the Time Base (R221). -/
def BusLayout.tmrOffsets (l : BusLayout) : List (BitVec 12) := [l.offCntr1us, l.offUsecCfg, l.offCntrFreeze]

/-- Word-aligned, distinct offsets inside a block of `span` bytes (R61, R63). -/
def offsetsFit (span : Nat) (os : List (BitVec 12)) : Bool :=
  os.all (fun o => o.toNat % 4 == 0 && o.toNat < span) && decide os.Nodup

/-- The five blocks as (base, span) (R68). -/
def BusLayout.blocks (l : BusLayout) : List (Nat × Nat) :=
  [(l.tmrBase.toNat, tmrSpan), (l.spiBase.spi1.toNat, l.spiBlockBytes), (l.spiBase.spi2.toNat, l.spiBlockBytes),
   (l.spiBase.spi3.toNat, l.spiBlockBytes), (l.spiBase.spi4.toNat, l.spiBlockBytes)]

/-- Word-aligned blocks inside the 32-bit address space that share no address; OFF has 12 bits (R60, R61, R81). -/
def BusLayout.blocksFit (l : BusLayout) : Bool :=
  l.spiBlockBytes ≤ 4096 &&
    l.blocks.all (fun b => b.1 % 4 == 0 && b.1 + b.2 ≤ 2 ^ 32) &&
    decide (l.blocks.Pairwise (fun a b => apart a b = true))

/-- The bus layout is one a decoder can serve. -/
def BusLayout.wf (l : BusLayout) : Bool :=
  offsetsFit l.spiBlockBytes l.spiOffsets && offsetsFit tmrSpan l.tmrOffsets && l.blocksFit

/-- Parameters the rules make sense for: R38 requires `1 <= FIFO_DEPTH <= 127`; a block size fits a register; the fields
of a register share no bit. -/
def Params.wf (p : Params) : Bool :=
  p.bus.wf && fieldsFit p.command1.fields && fieldsFit p.fifoStatus.fields && p.rdy < 32 &&
    fieldsFit p.timeBase.usecFields && fieldsFit p.timeBase.freezeFields &&
    (1 ≤ p.fifoDepth && p.fifoDepth ≤ 127) && (1 ≤ p.blkSizeBits && p.blkSizeBits ≤ 32)

end Config

end Sys2Proof
end

