-- ==== Sys2Proof/Decode.lean ====
section
/-! DEFINITION. Decoding and encoding (30_encoding R80 to R89; 20_memory R61 to R63).

The decoder is total: it answers an instruction or one of the verdicts of R87 and R88. Which of the two formats a word has is
given by who issues it (R89), so there is one decoder for each format and none that chooses between them. -/

namespace Sys2Proof

/-- Where a rejected access was aimed: a physical address, or a descriptor whose BLK names no block (log entry 20). -/
inductive AccessPoint where
  | addr (a : Word)
  | desc (d : BitVec 16)
  deriving DecidableEq, Repr

/-- The two FIFO ports (R36, R37). -/
inductive FifoPort where
  | tx
  | rx
  deriving DecidableEq, Repr

/-- Why a word spells no instruction (R87, R88, R62, R63). Each is a fault of R213 when performed. -/
inductive Verdict where
  | badWidth (a : Word)
  | misaligned (p : AccessPoint)
  | unmappedAccess (p : AccessPoint)
  | wrongDirection (h : Handle) (port : FifoPort)
  | illegalCommand (c : Word)
  deriving DecidableEq, Repr

/-- What an access decodes to (R61). -/
inductive Target where
  | controller (h : Handle)
  | timeBase
  deriving DecidableEq, Repr

/-! ## Formats (R81, R83) -/

/-- The fields of an access descriptor: W at 15, BLK at 14:12, OFF at 11:0 (R81). -/
def accW (d : BitVec 16) : Bool := d.getLsbD 15
def accBlk (d : BitVec 16) : BitVec 3 := d.extractLsb' 12 3
def accOff (d : BitVec 16) : BitVec 12 := d.extractLsb' 0 12

/-- An access descriptor from its fields (R81). -/
def accWord (w : Bool) (blk : BitVec 3) (off : BitVec 12) : BitVec 16 := BitVec.ofBool w ++ blk ++ off

/-- The fields of a command word: OP at 1:0, H at 3:2, RSV at 15:4, LEN at 31:16 (R83). -/
def cmdOp (c : Word) : BitVec 2 := c.extractLsb' 0 2
def cmdH (c : Word) : BitVec 2 := c.extractLsb' 2 2
def cmdRsv (c : Word) : BitVec 12 := c.extractLsb' 4 12
def cmdLen (c : Word) : BitVec 16 := c.extractLsb' 16 16

/-- A command word from its fields (R83). -/
def cmdWord (op : BitVec 2) (h : Handle) (len : BitVec 16) : Word := len ++ (0 : BitVec 12) ++ h.toBits ++ op

/-- The block BLK names: 000 to 011 a controller, 100 the Time Base, 101 to 111 none (R81). -/
def blkTarget (b : BitVec 3) : Option Target :=
  if b.getLsbD 2 then (if b = 4 then some .timeBase else none)
  else some (.controller (Handle.ofBits (b.extractLsb' 0 2)))

/-- BLK of a target (R81). -/
def Target.blk : Target → BitVec 3
  | .controller h => (0 : BitVec 1) ++ h.toBits
  | .timeBase => 4

/-- The base address of a target (R8). -/
def Target.base (p : Config.Params) : Target → Word
  | .controller h => p.bus.spiBase.get h
  | .timeBase => p.bus.tmrBase

/-! ## Access descriptors (R81, R86, R87) -/

/-- A read (`none`) or write of a controller's register at an offset (R86; R111 to R113 for the rejections). -/
def decodeController (p : Config.Params) (h : Handle) (off : BitVec 12) (write : Option Word) (pt : AccessPoint) :
    Except Verdict Instr :=
  if off = p.bus.offCommand1 then
    match write with
    | none => .ok (.rdCommand1 h)
    | some d => .ok (.wrCommand1 h d)
  else if off = p.bus.offTransStatus then
    match write with
    | none => .ok (.rdTransStatus h)
    | some d => .ok (.wrTransStatus h d)
  else if off = p.bus.offFifoStatus then
    match write with
    | none => .ok (.rdFifoStatus h)
    | some d => .ok (.wrFifoStatus h d)
  else if off = p.bus.offBlkSize then
    match write with
    | none => .ok (.rdBlkSize h)
    | some d => .ok (.wrBlkSize h d)
  else if off = p.bus.offTxFifo then
    match write with
    | none => .error (.wrongDirection h .tx)
    | some d => .ok (.wrTxFifo h d)
  else if off = p.bus.offRxFifo then
    match write with
    | none => .ok (.rdRxFifo h)
    | some _ => .error (.wrongDirection h .rx)
  else .error (.unmappedAccess pt)

/-- A read (`none`) or write of a Time Base register at an offset (R86; R226 for the rejections). -/
def decodeTimeBase (p : Config.Params) (off : BitVec 12) (write : Option Word) (pt : AccessPoint) :
    Except Verdict Instr :=
  if off = p.bus.offCntr1us then
    match write with
    | none => .ok .rdTmrCntr1us
    | some d => .ok (.wrTmrCntr1us d)
  else if off = p.bus.offUsecCfg then
    match write with
    | none => .ok .rdTmrUsecCfg
    | some d => .ok (.wrTmrUsecCfg d)
  else if off = p.bus.offCntrFreeze then
    match write with
    | none => .ok .rdTmrCntrFreeze
    | some d => .ok (.wrTmrCntrFreeze d)
  else .error (.unmappedAccess pt)

/-- A descriptor with its data operand, which a read ignores (R81). The order of the checks is that of R215: alignment,
then the block and the register, then the direction (log entry 10). -/
def decodeAcc (p : Config.Params) (d : BitVec 16) (data : Word) : Except Verdict Instr :=
  let off := accOff d
  let write := if accW d then some data else none
  match blkTarget (accBlk d) with
  | none =>
    if off.extractLsb' 0 2 = 0 then .error (.unmappedAccess (.desc d)) else .error (.misaligned (.desc d))
  | some t =>
    let pt := AccessPoint.addr (t.base p + off.setWidth 32)
    if off.extractLsb' 0 2 = 0 then
      match t with
      | .controller h => decodeController p h off write pt
      | .timeBase => decodeTimeBase p off write pt
    else .error (.misaligned pt)

/-! ## Physical accesses (R61 to R63, R82) -/

/-- Whether an address lies in a block, and its offset there. -/
def offsetIn (base : Word) (span : Nat) (a : Word) : Option (BitVec 12) :=
  if base.toNat ≤ a.toNat ∧ a.toNat < base.toNat + span then some (BitVec.ofNat 12 (a.toNat - base.toNat)) else none

/-- The decode loop of R61: the controllers in order, then the Time Base. -/
def decodeAddress (p : Config.Params) (a : Word) : Option (Target × BitVec 12) :=
  match Handle.all.findSome? (fun h =>
      (offsetIn (p.bus.spiBase.get h) p.bus.spiBlockBytes a).map (fun o => (Target.controller h, o))) with
  | some r => some r
  | none => (offsetIn p.bus.tmrBase Config.tmrSpan a).map (fun o => (Target.timeBase, o))

/-- The descriptor of a physical access: the target as BLK, the offset as OFF; none outside every block (R82). -/
def descriptorOf (p : Config.Params) (a : Word) (write : Option Word) : Option (BitVec 16) :=
  (decodeAddress p a).map (fun (t, o) => accWord write.isSome t.blk o)

/-- A physical access: width, then alignment, then the address decode, then the descriptor (R215, R61 to R63, R82). -/
def decodePhys (p : Config.Params) (a : Word) (width : Nat) (write : Option Word) : Except Verdict Instr :=
  if width ≠ 32 then .error (.badWidth a)
  else if a.extractLsb' 0 2 ≠ 0 then .error (.misaligned (.addr a))
  else
    match descriptorOf p a write with
    | none => .error (.unmappedAccess (.addr a))
    | some d => decodeAcc p d (write.getD 0)

/-- What a bus master issues. -/
def decodeAccess (p : Config.Params) : Config.Access → Except Verdict Instr
  | .phys a width write => decodePhys p a width write
  | .acc d data => decodeAcc p d data

/-! ## Command words (R83, R88) -/

/-- A command word with SEND's byte list; the other commands carry none (R83). -/
def decodeCmd (c : Word) (bytes : List Byte) : Except Verdict Instr :=
  let h := Handle.ofBits (cmdH c)
  if cmdRsv c ≠ 0 then .error (.illegalCommand c)
  else if cmdOp c = 0 then
    if cmdLen c = 0 then .ok (.init h) else .error (.illegalCommand c)
  else if cmdOp c = 1 then
    if cmdLen c = 0 then .ok (.flushFifos h) else .error (.illegalCommand c)
  else if cmdOp c = 2 then .ok (.send h (cmdLen c) bytes)
  else .ok (.receive h (cmdLen c))

/-! ## The encoder -/

/-- The words of an instruction, in the format its issuer uses (R80). A read has no data operand. -/
inductive Words where
  | acc (desc : BitVec 16) (data : Option Word)
  | cmd (c : Word) (bytes : List Byte)
  deriving DecidableEq, Repr

/-- What the words of either format decode to. -/
def decode (p : Config.Params) : Words → Except Verdict Instr
  | .acc d data => decodeAcc p d (data.getD 0)
  | .cmd c bytes => decodeCmd c bytes

/-- A read's and a write's words (R81). -/
def encodeRd (t : Target) (off : BitVec 12) : Words := .acc (accWord false t.blk off) none
def encodeWr (t : Target) (off : BitVec 12) (d : Word) : Words := .acc (accWord true t.blk off) (some d)

/-- The words of an instruction (R86, R88). -/
def encode (p : Config.Params) : Instr → Words
  | .rdCommand1 h => encodeRd (.controller h) p.bus.offCommand1
  | .wrCommand1 h d => encodeWr (.controller h) p.bus.offCommand1 d
  | .rdTransStatus h => encodeRd (.controller h) p.bus.offTransStatus
  | .wrTransStatus h d => encodeWr (.controller h) p.bus.offTransStatus d
  | .rdFifoStatus h => encodeRd (.controller h) p.bus.offFifoStatus
  | .wrFifoStatus h d => encodeWr (.controller h) p.bus.offFifoStatus d
  | .rdBlkSize h => encodeRd (.controller h) p.bus.offBlkSize
  | .wrBlkSize h d => encodeWr (.controller h) p.bus.offBlkSize d
  | .wrTxFifo h d => encodeWr (.controller h) p.bus.offTxFifo d
  | .rdRxFifo h => encodeRd (.controller h) p.bus.offRxFifo
  | .rdTmrCntr1us => encodeRd .timeBase p.bus.offCntr1us
  | .wrTmrCntr1us d => encodeWr .timeBase p.bus.offCntr1us d
  | .rdTmrUsecCfg => encodeRd .timeBase p.bus.offUsecCfg
  | .wrTmrUsecCfg d => encodeWr .timeBase p.bus.offUsecCfg d
  | .rdTmrCntrFreeze => encodeRd .timeBase p.bus.offCntrFreeze
  | .wrTmrCntrFreeze d => encodeWr .timeBase p.bus.offCntrFreeze d
  | .init h => .cmd (cmdWord 0 h 0) []
  | .flushFifos h => .cmd (cmdWord 1 h 0) []
  | .send h len bytes => .cmd (cmdWord 2 h len) bytes
  | .receive h len => .cmd (cmdWord 3 h len) []

/-! ## The table's words (log entry 17) -/

/-- The operand bytes of a table word: zeros, as many as LEN says for a SEND, none for the other commands (R83). -/
def zeroBytes (c : Word) : List Byte := if cmdOp c = 2 then List.replicate (cmdLen c).toNat 0 else []

/-- A number of `nbits` bits laid out as the table numbers them: a 16-bit number is an access descriptor with a data operand
of zero; a longer one is a command word. A 16-bit number no descriptor row fits is read as a command word whose upper half
is zero, since the table fixes no bit of SEND and RECEIVE above bit 15. -/
def tableWords (nbits w : Nat) : Words :=
  if nbits ≤ 16 ∧ accWellFormed (BitVec.ofNat 16 w) then .acc (BitVec.ofNat 16 w) none
  else .cmd (BitVec.ofNat 32 w) (zeroBytes (BitVec.ofNat 32 w))

/-- The instruction the decoder reads from the `nbits`-bit number `w` at the default parameters. -/
def decodeTableWord (nbits w : Nat) : Option Instr :=
  (decode Config.defaults (tableWords nbits w)).toOption

end Sys2Proof
end

