-- ==== Sys2Proof/Machine/State.lean ====
section
/-! DEFINITION. The state (10_state R20 to R45; 60_exceptions R213, R214, R221), plain data, and reset (70_reset R240, R241).

`cfg`, `actor`, `rdata`, `agenda`, `turnIx`, `script` and `drawIx` are the model's own fields (log entries 1, 2, 3, 15). -/

namespace Sys2Proof.Machine

open Sys2Proof.Config (Params Agent Turn UsecCfg)

/-! ## Faults and refusals -/

/-- The registers a write can find busy (R102, R108). -/
inductive BusyReg where
  | command1
  | blkSize
  deriving DecidableEq, Repr

/-- The faults of R213. A fault is recorded in `State.faults` with the agent that raised it, which takes no further step.
Every fault errs toward unprovable (R213), so each is safe. -/
inductive Fault where
  /-- Raised by a bus access of a width other than 32 bits (R62). Safe. -/
  | badWidth (a : Word)
  /-- Raised by a bus access whose address is not word-aligned (R63). Safe. -/
  | misaligned (p : AccessPoint)
  /-- Raised by a bus access that reaches no register (R61, R113, R226). Safe. -/
  | unmappedAccess (p : AccessPoint)
  /-- Raised by a read of TX_FIFO and a write of RX_FIFO (R111, R112). Safe. -/
  | wrongDirection (h : Handle) (port : FifoPort)
  /-- Raised by WR.COMMAND1 and WR.BLK_SIZE on a busy controller (R102, R108). Safe. -/
  | writeWhileBusy (h : Handle) (reg : BusyReg)
  /-- Raised by WR.FIFO_STATUS with a flush bit on a busy controller (R106, R150). Safe. -/
  | flushWhileBusy (h : Handle)
  /-- Raised by a transfer start while a flush is pending (R140, R150). Safe. -/
  | triggerDuringFlush (h : Handle)
  /-- Raised by WR.TX_FIFO and RD.RX_FIFO while that FIFO's flush is pending (R109, R110). Safe. -/
  | fifoAccessDuringFlush (h : Handle) (port : FifoPort)
  /-- Raised by a transfer start less than T_SETTLE_US after the last register write (R140, R243). Safe. -/
  | hazardSettle (h : Handle)
  /-- Raised by the engine a malformed command word names (R88, R170). Safe. -/
  | illegalCommand (c : Word)
  deriving DecidableEq, Repr

/-- What a transfer start refuses, in the order of R141. -/
inductive Unsupported where
  | bitLength
  | packed
  | hwChipSelect
  | noDirection
  deriving DecidableEq, Repr

/-- The refusals of R214: the model gives the situation no meaning. A refusal is recorded in `State.refusal`; `step` then
answers it for ever. Every refusal errs toward unprovable (R214), so each is safe. -/
inductive Refusal where
  /-- An arm of `exec` that has no meaning yet; none is left. Safe. -/
  | notModelled (mnemonic : String)
  /-- Raised by a transfer start in a configuration the source does not describe (R141). Safe. -/
  | unsupportedConfig (h : Handle) (why : Unsupported)
  /-- Raised by a command handed to a busy engine (R170). Safe. -/
  | concurrentCommand (h : Handle)
  /-- Raised by a second INIT (R170). Safe. -/
  | initTwice (h : Handle)
  /-- Raised by SEND and RECEIVE before INIT (R170). Safe. -/
  | notInitialized (h : Handle)
  /-- Raised by RECEIVE with LEN outside 1..FIFO_DEPTH (R181). Safe. -/
  | receiveLength (len : Nat)
  /-- Raised by another master's access to a controller whose engine is busy (R220). Safe. -/
  | ownershipViolation (h : Handle)
  /-- Raised by every WR.TMR_CNTR_1US (R226). Safe. -/
  | timerCounterWrite
  /-- Raised by WR.TMR_USEC_CFG with a value other than the configured one (R223). Safe. -/
  | timerReconfigured
  deriving DecidableEq, Repr

/-- A fault with the agent that raised it (R213). -/
structure FaultRecord where
  agent  : Agent
  reason : Fault
  deriving DecidableEq, Repr

/-! ## Controllers (R25 to R41) -/

/-- One frame on the serial side (R12): the chip-select levels, the byte shifted out and the byte shifted in. `lsbFirst` is
the bit order of the event (R146, log entry 18). -/
structure Frame where
  ctrl     : Handle
  cs       : BitVec 4
  mosi     : Byte
  miso     : Byte
  lsbFirst : Bool
  deriving DecidableEq, Repr

/-- The configuration latched at transfer start (R25, R142). -/
structure Latch where
  txEn    : Bool
  rxEn    : Bool
  lsbitFe : Bool
  deriving DecidableEq, Repr

/-- One controller (R25, R29 to R38). `command1` holds the RW fields of `COMMAND1` in their places, with PIO and the reserved
bits 0: PIO reads `busy` and the reserved bits read as draws (R29, R30, log entry 26). -/
structure Ctrl where
  command1   : Word
  busy       : Bool
  framesLeft : Nat
  lat        : Latch
  rdy        : Bool
  err        : Bool
  txOvf      : Bool
  txUnf      : Bool
  rxOvf      : Bool
  rxUnf      : Bool
  flushTx    : Bool
  flushRx    : Bool
  blkSize    : Word
  txq        : List Word
  rxq        : List Word
  stale      : Bool
  tTrig      : Nat
  tLastw     : Option Nat
  wire       : List Frame
  deriving DecidableEq, Repr

/-- What the outside and the draws of R143 supply to one frame. -/
structure FrameInputs where
  /-- The byte on the output line where the rule says `draw_8()` (R143, R145). -/
  mosiFree     : Byte
  /-- The level of a hardware-driven selected line (R155). -/
  csFree       : Bool
  /-- The generic-error draw (R143, R151). -/
  genericError : Bool
  /-- The peripheral's byte (R145). -/
  miso         : Byte
  /-- Bits 31:8 of the entry pushed (R37, R143). -/
  upper        : BitVec 24
  deriving DecidableEq, Repr

/-! ## Engines (R23, R24, R171) -/

/-- The four commands (R23, R83). -/
inductive EngineOp where
  | init
  | flushFifos
  | send
  | receive
  deriving DecidableEq, Repr

/-- The results of a command (R171, R210, R211). -/
inductive Result where
  | ok
  | okData (bytes : List Byte)
  | transferError
  | invalidArgument
  deriving DecidableEq, Repr

/-- SEND's argument: four bytes (R23, R188). -/
structure TxBuf where
  b0 : Byte
  b1 : Byte
  b2 : Byte
  b3 : Byte
  deriving DecidableEq, Repr

/-- One engine's locals (R23). -/
structure Engine where
  busyCmd     : Bool
  op          : EngineOp
  pc          : Nat
  initialized : Bool
  txbuf       : TxBuf
  len         : Nat
  k           : Nat
  out         : List Byte
  t0          : Word
  scratch     : Word
  result      : Option Result
  deriving DecidableEq, Repr

/-- One step of an engine's step list: one bus access, one delay check or one internal decision (R24, R173 to R183). -/
inductive Micro where
  /-- `scratch <- rd32 COMMAND1`, the first half of `rmw32` (R175). -/
  | readCommand1
  /-- `wr32 COMMAND1, (scratch & ~clr) | set`, the second half of `rmw32` (R175). -/
  | writeCommand1 (clr set : Word)
  /-- `poll TRANS_STATUS, mask, eq` (R174). -/
  | pollTransStatus (mask eq : Word)
  /-- `poll FIFO_STATUS, mask, eq` (R174). -/
  | pollFifoStatus (mask eq : Word)
  | writeTransStatus (v : Word)
  | writeFifoStatus (v : Word)
  | writeBlkSize (v : Word)
  | writeTxFifo (v : Word)
  /-- `t0 <- rd32 TMR.CNTR_1US`, the first half of `delay_us` (R176). -/
  | delayStart
  /-- `t <- rd32 TMR.CNTR_1US; if (t - t0) mod 2^32 < n then this step again` (R176). -/
  | delayWait (n : Nat)
  /-- The discarded read of `COMMAND1` (R180 step 17, R182 step 16). -/
  | dummyRead
  /-- SEND step 21: read `FIFO_STATUS`; `Ok` if ERR is 0 (R180, R183). -/
  | checkErrReturn
  /-- RECEIVE step 20: read `FIFO_STATUS`; to the drain if ERR is 0 (R182, R183). -/
  | checkErrDrain (drainPc : Nat)
  /-- Write `M_ERR_ALL` and return `TransferError` (R183). -/
  | clearErrAndFail
  /-- RECEIVE step 22: pop one entry, keep its low byte (R182, R189). -/
  | drain
  /-- INIT step 8 (R177). -/
  | finishInit
  /-- FLUSH_FIFOS step 4 (R178). -/
  | finishOk
  /-- RECEIVE step 23 (R182). -/
  | finishData
  deriving DecidableEq, Repr

/-- The names of the source's state machine (R172). -/
inductive Phase where
  | idle
  | flushed
  | configured
  | enabled
  | triggered
  | awaitingReady
  | completed
  | errored
  deriving DecidableEq, Repr

/-! ## The Time Base and the whole state -/

/-- The five independent debug-freeze bits: one for each CPU core, one for the companion core (R224, R227). -/
structure Freeze where
  cpu0 : Bool
  cpu1 : Bool
  cpu2 : Bool
  cpu3 : Bool
  cop  : Bool
  deriving DecidableEq, Repr

/-- The Time Base (R221): the counter's draw of reset, the dividend and divisor, and the freeze bits. -/
structure TimeBase where
  cntr0   : Word
  usecCfg : UsecCfg
  freeze  : Freeze
  deriving DecidableEq, Repr

/-- The state of the block (R20). -/
structure State where
  /-- The parameters of R8; no step writes them (log entry 3). -/
  cfg     : Params
  ctrl    : PerHandle Ctrl
  eng     : PerHandle Engine
  tmr     : TimeBase
  /-- `now_us`: microseconds since reset (R11, R225). -/
  now     : Nat
  /-- The fault set: no repeats, never cleared (R44, R213). -/
  faults  : List FaultRecord
  /-- The refusal mark: never cleared (R44, R214). -/
  refusal : Option Refusal
  /-- The results handed to the host, oldest first (R171, R187). -/
  results : List (Handle × Result)
  /-- The agent whose step this is (R213, R220, log entry 15). -/
  actor   : Agent
  /-- The value of the last bus read (R81, log entry 15). -/
  rdata   : Word
  /-- Turns already decided, next first (log entry 1). -/
  agenda  : List Turn
  /-- How many turns were free choices (log entry 1). -/
  turnIx  : Nat
  /-- Draws already decided, next first (log entry 2). -/
  script  : List Word
  /-- How many draws were free words (log entry 2). -/
  drawIx  : Nat
  deriving DecidableEq, Repr

/-! ## Reset (R45, R240, R241) -/

/-- The draws of the reset step for one controller (R45). -/
structure CtrlDraws where
  command1 : Word
  lat      : Latch
  err      : Bool
  txOvf    : Bool
  txUnf    : Bool
  rxOvf    : Bool
  rxUnf    : Bool
  blkSize  : Word
  txq      : List Word
  rxq      : List Word
  tTrig    : Nat
  deriving DecidableEq, Repr

/-- The draws of the reset step for one engine: every local but `busy_cmd` and `initialized` (R45). -/
structure EngineDraws where
  op      : EngineOp
  pc      : Nat
  txbuf   : TxBuf
  len     : Nat
  k       : Nat
  out     : List Byte
  t0      : Word
  scratch : Word
  result  : Option Result
  deriving DecidableEq, Repr

/-- Every value R45 leaves to a draw of the reset step. -/
structure ResetDraws where
  ctrl   : PerHandle CtrlDraws
  eng    : PerHandle EngineDraws
  cntr0  : Word
  freeze : Freeze
  deriving DecidableEq, Repr

/-- A controller after reset (R45). -/
def Ctrl.reset (d : CtrlDraws) : Ctrl where
  command1 := d.command1
  busy := false
  framesLeft := 0
  lat := d.lat
  rdy := true
  err := d.err
  txOvf := d.txOvf
  txUnf := d.txUnf
  rxOvf := d.rxOvf
  rxUnf := d.rxUnf
  flushTx := false
  flushRx := false
  blkSize := d.blkSize
  txq := d.txq
  rxq := d.rxq
  stale := false
  tTrig := d.tTrig
  tLastw := none
  wire := []

/-- An engine after reset (R45). -/
def Engine.reset (d : EngineDraws) : Engine where
  busyCmd := false
  op := d.op
  pc := d.pc
  initialized := false
  txbuf := d.txbuf
  len := d.len
  k := d.k
  out := d.out
  t0 := d.t0
  scratch := d.scratch
  result := d.result

/-- CFG(F_REF) (R223, R242). -/
def usecCfgOf (p : Params) : UsecCfg :=
  match p.fRef with
  | .mhz12 => p.timeBase.cfg12
  | .mhz38_4 => p.timeBase.cfg38_4

/-- The state after reset for the parameters `p` and the draws `d` (R45, R240). -/
def State.resetOf (p : Params) (d : ResetDraws) : State where
  cfg := p
  ctrl := ⟨.reset d.ctrl.spi1, .reset d.ctrl.spi2, .reset d.ctrl.spi3, .reset d.ctrl.spi4⟩
  eng := ⟨.reset d.eng.spi1, .reset d.eng.spi2, .reset d.eng.spi3, .reset d.eng.spi4⟩
  tmr := { cntr0 := d.cntr0, usecCfg := usecCfgOf p, freeze := d.freeze }
  now := 0
  faults := []
  refusal := none
  results := []
  actor := .host
  rdata := 0
  agenda := []
  turnIx := 0
  script := []
  drawIx := 0

/-- The value the model names for each draw of reset of a controller (DESIGN CHOICE, log entry 5). -/
def CtrlDraws.zero : CtrlDraws where
  command1 := 0
  lat := ⟨false, false, false⟩
  err := false
  txOvf := false
  txUnf := false
  rxOvf := false
  rxUnf := false
  blkSize := 0
  txq := []
  rxq := []
  tTrig := 0

/-- The value the model names for each draw of reset of an engine (DESIGN CHOICE, log entry 5). -/
def EngineDraws.zero : EngineDraws where
  op := .init
  pc := 0
  txbuf := ⟨0, 0, 0, 0⟩
  len := 0
  k := 0
  out := []
  t0 := 0
  scratch := 0
  result := none

/-- The value the model names for each draw of reset (DESIGN CHOICE, log entry 5). -/
def ResetDraws.zero : ResetDraws where
  ctrl := .all .zero
  eng := .all .zero
  cntr0 := 0
  freeze := ⟨false, false, false, false, false⟩

/-- The machine right after reset: the values R45 states, and for its draws the values of log entry 5, at the default
parameters (log entries 3, 4). -/
def State.reset : State := State.resetOf Config.defaults ResetDraws.zero

end Sys2Proof.Machine
end

