-- ==== Sys2Proof/Machine/Operands.lean ====
section
/-! DEFINITION. Bit fields, the masks of 30_encoding R85, the views of register words, and the arithmetic of 40_register_access R114.

Every position and width comes from the parameters: "a model that takes other bit positions recomputes every constant from
its parameters" (R85). -/

namespace Sys2Proof.Machine

open Sys2Proof.Config (Params UsecCfg)

/-! ## Bit fields (R11) -/

/-- The mask of the `len` bits from bit `lo` up. -/
def fieldMask (lo len : Nat) : Word := BitVec.ofNat 32 ((2 ^ len - 1) <<< lo)

/-- `w[lo+len-1 : lo]`. -/
def getField (w : Word) (lo len : Nat) : BitVec len := w.extractLsb' lo len

/-- `w` with the field of `len` bits from bit `lo` up replaced. -/
def putField (w : Word) (lo len : Nat) (v : BitVec len) : Word :=
  (w &&& ~~~fieldMask lo len) ||| (v.setWidth 32 <<< lo)

/-- `w` with one bit replaced. -/
def putBit (w : Word) (lo : Nat) (b : Bool) : Word := putField w lo 1 (BitVec.ofBool b)

/-- The bits of `a` under the mask and those of `b` outside it. -/
def mergeBits (m a b : Word) : Word := (a &&& m) ||| (b &&& ~~~m)

/-! ## Field constants (R85) -/

def mPio (p : Params) : Word := fieldMask p.command1.pio 1
def mCsSel (p : Params) : Word := fieldMask p.command1.csSel 2
def mCsSwHw (p : Params) : Word := fieldMask p.command1.csSwHw 1
def mCsSwVal (p : Params) : Word := fieldMask p.command1.csSwVal 1
def mLsbitFe (p : Params) : Word := fieldMask p.command1.lsbitFe 1
def mRxEn (p : Params) : Word := fieldMask p.command1.rxEn 1
def mTxEn (p : Params) : Word := fieldMask p.command1.txEn 1
def mPacked (p : Params) : Word := fieldMask p.command1.packed 1
def mBitLength (p : Params) : Word := fieldMask p.command1.bitLength 5
/-- BIT_LENGTH = 7: 8-bit frames (R29, R85). -/
def vBits8 (p : Params) : Word := (7 : Word) <<< p.command1.bitLength
def mRdy (p : Params) : Word := fieldMask p.rdy 1
def mFlushBoth (p : Params) : Word := fieldMask p.fifoStatus.rxFlush 1 ||| fieldMask p.fifoStatus.txFlush 1
def mErr (p : Params) : Word := fieldMask p.fifoStatus.err 1
def mErrAll (p : Params) : Word :=
  fieldMask p.fifoStatus.err 1 ||| fieldMask p.fifoStatus.txOvf 1 ||| fieldMask p.fifoStatus.txUnf 1 |||
    fieldMask p.fifoStatus.rxOvf 1 ||| fieldMask p.fifoStatus.rxUnf 1

/-- The RW fields of `COMMAND1`: all its fields but PIO (R29). -/
def mCommand1Rw (p : Params) : Word :=
  p.command1.fields.tail.foldl (fun m f => m ||| fieldMask f.1 f.2) 0

/-- The reserved bits of `COMMAND1`: bits 10:6 at the default positions (R29). -/
def mCommand1Reserved (p : Params) : Word := ~~~(mCommand1Rw p ||| mPio p)

/-- The bits of the block-size field (R35). -/
def mBlkSize (p : Params) : Word := fieldMask 0 p.blkSizeBits

/-! ## The fields of a `COMMAND1` word (R29) -/

def pioBit (p : Params) (w : Word) : Bool := w.getLsbD p.command1.pio
def csSel (p : Params) (w : Word) : BitVec 2 := getField w p.command1.csSel 2
def csPolInactive (p : Params) (w : Word) : BitVec 4 := getField w p.command1.csPolInactive 4
def csSwHw (p : Params) (w : Word) : Bool := w.getLsbD p.command1.csSwHw
def csSwVal (p : Params) (w : Word) : Bool := w.getLsbD p.command1.csSwVal
def lsbitFe (p : Params) (w : Word) : Bool := w.getLsbD p.command1.lsbitFe
def rxEn (p : Params) (w : Word) : Bool := w.getLsbD p.command1.rxEn
def txEn (p : Params) (w : Word) : Bool := w.getLsbD p.command1.txEn
def packedBit (p : Params) (w : Word) : Bool := w.getLsbD p.command1.packed
def bitLength (p : Params) (w : Word) : BitVec 5 := getField w p.command1.bitLength 5

/-! ## Register words -/

/-- What `COMMAND1` keeps of a written word: its RW fields (R29, R101). -/
def storeCommand1 (p : Params) (d : Word) : Word := d &&& mCommand1Rw p

/-- The word a `COMMAND1` read returns: stored fields, drawn reserved bits, PIO = busy (R100, R30). -/
def command1Word (p : Params) (stored : Word) (busy : Bool) (draw : Word) : Word :=
  putBit (mergeBits (mCommand1Reserved p) draw stored) p.command1.pio busy

/-- What `BLK_SIZE` keeps of a written word: higher bits are discarded, not saturated (R108, R114). -/
def storeBlkSize (p : Params) (d : Word) : Word := d &&& mBlkSize p

/-- The word a `BLK_SIZE` read returns (R107). -/
def blkSizeWord (p : Params) (stored draw : Word) : Word := mergeBits (mBlkSize p) stored draw

/-- The frames of a block: the field plus one, on naturals (R35, R114, R140). -/
def blockFrames (stored : Word) : Nat := stored.toNat + 1

/-- The field change of `rmw32`: `(v & ~clr) | set` (R91, R175). -/
def rmwWord (v clr set : Word) : Word := (v &&& ~~~clr) ||| set

/-! ## Bytes and words (R64, R188, R189) -/

/-- SEND's word: byte `b[k]` at bits `[8k+7 : 8k]` (R64, R188). -/
def pack (b : TxBuf) : Word := b.b3 ++ b.b2 ++ b.b1 ++ b.b0

/-- The inverse of `pack` (R188). -/
def unpack (w : Word) : TxBuf where
  b0 := getField w 0 8
  b1 := getField w 8 8
  b2 := getField w 16 8
  b3 := getField w 24 8

/-- The four bytes of a list of four (R179). -/
def TxBuf.ofList : List Byte → Option TxBuf
  | [b0, b1, b2, b3] => some ⟨b0, b1, b2, b3⟩
  | _ => none

/-- The low byte of a FIFO entry, the only meaningful one in 8-bit unpacked mode (R36, R37, R189). -/
def lowByte (w : Word) : Byte := getField w 0 8

/-- The entry a frame pushes: drawn upper bits, the peripheral's byte low (R37, R143). -/
def rxEntry (upper : BitVec 24) (miso : Byte) : Word := upper ++ miso

/-- The order in which a byte's bits are on the wire: LSBIT_FE = 0 is most significant first (R146). -/
def wireBits (lsbFirst : Bool) (b : Byte) : List Bool :=
  if lsbFirst then (List.range 8).map b.getLsbD else ((List.range 8).map b.getLsbD).reverse

/-! ## Chip-select outputs (R155) -/

/-- The level of line `n`; `free` is the level of a hardware-driven selected line. -/
def csLevel (p : Params) (command1 : Word) (free : Bool) (n : Nat) : Bool :=
  if n = (csSel p command1).toNat then (if csSwHw p command1 then csSwVal p command1 else free)
  else (csPolInactive p command1).getLsbD n

/-- The four lines, line 0 least significant. -/
def csLevels (p : Params) (command1 : Word) (free : Bool) : BitVec 4 :=
  BitVec.ofBool (csLevel p command1 free 3) ++ BitVec.ofBool (csLevel p command1 free 2) ++
    BitVec.ofBool (csLevel p command1 free 1) ++ BitVec.ofBool (csLevel p command1 free 0)

/-! ## Time (R114, R176, R222, R225) -/

/-- The counter register: `(cntr0 + now_us) mod 2^32` (R222). -/
def counterWord (t : TimeBase) (now : Nat) : Word := t.cntr0 + BitVec.ofNat 32 now

/-- What `USEC_CFG` keeps of a written word (R221, R223). -/
def usecCfgField (p : Params) (d : Word) : UsecCfg where
  dividend := getField d p.timeBase.usecDividend 8
  divisor := getField d p.timeBase.usecDivisor 8

/-- The word a `USEC_CFG` read returns: the two fields, every other bit drawn (R223). -/
def usecCfgWord (p : Params) (u : UsecCfg) (draw : Word) : Word :=
  putField (putField draw p.timeBase.usecDivisor 8 u.divisor) p.timeBase.usecDividend 8 u.dividend

/-- What `CNTR_FREEZE` keeps of a written word (R221, R224). -/
def freezeField (p : Params) (d : Word) : Freeze where
  cpu0 := d.getLsbD p.timeBase.freezeCpu0
  cpu1 := d.getLsbD p.timeBase.freezeCpu1
  cpu2 := d.getLsbD p.timeBase.freezeCpu2
  cpu3 := d.getLsbD p.timeBase.freezeCpu3
  cop := d.getLsbD p.timeBase.freezeCop

/-- The word a `CNTR_FREEZE` read returns: the five bits, every other bit drawn (R224). -/
def freezeWord (p : Params) (f : Freeze) (draw : Word) : Word :=
  let v := putBit draw p.timeBase.freezeCpu0 f.cpu0
  let v := putBit v p.timeBase.freezeCpu1 f.cpu1
  let v := putBit v p.timeBase.freezeCpu2 f.cpu2
  let v := putBit v p.timeBase.freezeCpu3 f.cpu3
  putBit v p.timeBase.freezeCop f.cop

/-- `(t - t0) mod 2^32` (R114, R176). -/
def elapsed (t t0 : Word) : Nat := (t - t0).toNat

/-! ## Draws -/

/-- The draws of a frame, taken from two free words: the byte on a free output line, the free line level and the generic
error from the first; the entry the receiver would push, whose low byte is the peripheral's, from the second (R143). -/
def FrameInputs.ofWords (a b : Word) : FrameInputs where
  mosiFree := getField a 0 8
  genericError := a.getLsbD 8
  csFree := a.getLsbD 9
  miso := getField b 0 8
  upper := getField b 8 24

end Sys2Proof.Machine
end

