-- ==== Sys2Proof/Machine/Flags.lean ====
section
/-! DEFINITION. The flags a program reads (10_state R42): RDY, ERR, the four overflow and underflow flags, the flush bits, and
the derived FIFO fields; how each is set, cleared and read. -/

namespace Sys2Proof.Machine

open Sys2Proof.Config (Params)

/-! ## Setting (R39: ERR is set in the same step that sets any of the four) -/

/-- A write to a full TX FIFO (R153). -/
def Ctrl.flagTxOvf (c : Ctrl) : Ctrl := { c with txOvf := true, err := true }

/-- A frame that finds the TX FIFO empty (R144). -/
def Ctrl.flagTxUnf (c : Ctrl) : Ctrl := { c with txUnf := true, err := true }

/-- A frame that finds the RX FIFO full (R144). -/
def Ctrl.flagRxOvf (c : Ctrl) : Ctrl := { c with rxOvf := true, err := true }

/-- A read of an empty RX FIFO (R154). -/
def Ctrl.flagRxUnf (c : Ctrl) : Ctrl := { c with rxUnf := true, err := true }

/-- A generic error: ERR alone (R151). -/
def Ctrl.flagGeneric (c : Ctrl) : Ctrl := { c with err := true }

/-! ## Clearing -/

/-- Write 1 to clear: a flag keeps its value where the written bit is 0. -/
def w1c (d : Word) (pos : Nat) (flag : Bool) : Bool := flag && !d.getLsbD pos

/-- The five error flags of a `FIFO_STATUS` write, all in one step (R106). -/
def Ctrl.clearErrors (p : Params) (d : Word) (c : Ctrl) : Ctrl :=
  { c with
    err := w1c d p.fifoStatus.err c.err
    txOvf := w1c d p.fifoStatus.txOvf c.txOvf
    txUnf := w1c d p.fifoStatus.txUnf c.txUnf
    rxOvf := w1c d p.fifoStatus.rxOvf c.rxOvf
    rxUnf := w1c d p.fifoStatus.rxUnf c.rxUnf }

/-- RDY of a `TRANS_STATUS` write (R104). -/
def Ctrl.clearRdy (p : Params) (d : Word) (c : Ctrl) : Ctrl := { c with rdy := w1c d p.rdy c.rdy }

/-- Whether a `FIFO_STATUS` write asks for a flush (R106). -/
def asksFlush (p : Params) (d : Word) : Bool :=
  d.getLsbD p.fifoStatus.txFlush || d.getLsbD p.fifoStatus.rxFlush

/-- The flush start of a `FIFO_STATUS` write; a 0 never cancels a flush (R106, R148). -/
def Ctrl.startFlush (p : Params) (d : Word) (c : Ctrl) : Ctrl :=
  { c with
    flushTx := c.flushTx || d.getLsbD p.fifoStatus.txFlush
    flushRx := c.flushRx || d.getLsbD p.fifoStatus.rxFlush }

/-! ## Status words -/

/-- The word a `TRANS_STATUS` read returns: everything drawn, RDY itself only outside the stale window (R103, R27). -/
def transStatusWord (p : Params) (c : Ctrl) (draw : Word) : Word :=
  if c.stale then draw else putBit draw p.rdy c.rdy

/-- The fields derived from the TX FIFO, drawn while it is being flushed (R41, R105). -/
def putTxFields (p : Params) (c : Ctrl) (v : Word) : Word :=
  if c.flushTx then v
  else
    let v := putField v p.fifoStatus.txEmptyCount 7 (BitVec.ofNat 7 (p.fifoDepth - c.txq.length))
    let v := putBit v p.fifoStatus.txFull (c.txq.length == p.fifoDepth)
    putBit v p.fifoStatus.txEmpty (c.txq.length == 0)

/-- The fields derived from the RX FIFO, drawn while it is being flushed (R41, R105). -/
def putRxFields (p : Params) (c : Ctrl) (v : Word) : Word :=
  if c.flushRx then v
  else
    let v := putField v p.fifoStatus.rxFullCount 7 (BitVec.ofNat 7 c.rxq.length)
    let v := putBit v p.fifoStatus.rxFull (c.rxq.length == p.fifoDepth)
    putBit v p.fifoStatus.rxEmpty (c.rxq.length == 0)

/-- The error flags and the flush bits (R105). -/
def putFlagBits (p : Params) (c : Ctrl) (v : Word) : Word :=
  let v := putBit v p.fifoStatus.err c.err
  let v := putBit v p.fifoStatus.txOvf c.txOvf
  let v := putBit v p.fifoStatus.txUnf c.txUnf
  let v := putBit v p.fifoStatus.rxOvf c.rxOvf
  let v := putBit v p.fifoStatus.rxUnf c.rxUnf
  let v := putBit v p.fifoStatus.rxFlush c.flushRx
  putBit v p.fifoStatus.txFlush c.flushTx

/-- The word a `FIFO_STATUS` read returns (R105). -/
def fifoStatusWord (p : Params) (c : Ctrl) (draw : Word) : Word :=
  putRxFields p c (putTxFields p c (putFlagBits p c draw))

/-! ## The stale window (R27) -/

/-- A `COMMAND1` read at `now` closes the window when it is late enough (R27, R100). -/
def Ctrl.closeStale (now : Nat) (c : Ctrl) : Ctrl :=
  { c with stale := c.stale && !(decide (Config.tTriggerUs ≤ now - c.tTrig)) }

end Sys2Proof.Machine
end

