-- ==== Sys2Proof/Machine/Ops.lean ====
section
/-! DEFINITION. The named operations over the state: reading and writing a controller or engine, draws, faults and refusals
(60_exceptions R213, R214), ownership (R220), the FIFO ports (40_register_access R109, R110), the start of a transfer
(41_controller_operation R140, R141), and the result handed to the host (42_polling_engine R171). -/

namespace Sys2Proof.Machine

open Sys2Proof.Config (Params Agent Turn)

/-- The outcome of a step. -/
abbrev Out := Host.Outcome State Fault Refusal

/-! ## Parts of the state -/

def State.setCtrl (h : Handle) (c : Ctrl) (s : State) : State := { s with ctrl := s.ctrl.set h c }

def State.setEng (h : Handle) (e : Engine) (s : State) : State := { s with eng := s.eng.set h e }

/-- The agent whose step this is. -/
def State.as (a : Agent) (s : State) : State := { s with actor := a }

/-- The 32-bit result of a read (R81). -/
def State.returnRead (v : Word) (s : State) : State := { s with rdata := v }

/-! ## Free values -/

/-- One draw: a word already decided, else a free one (R11, log entry 2). -/
def State.drawn (s : State) : Word :=
  match s.script with
  | w :: _ => w
  | [] => Config.freeWord s.drawIx

/-- The state after one draw. -/
def State.afterDraw (s : State) : State :=
  match s.script with
  | _ :: ws => { s with script := ws }
  | [] => { s with drawIx := s.drawIx + 1 }

/-- Whose turn it is: a turn already decided, else a free choice (R10, log entry 1). -/
def State.turn (s : State) : Turn :=
  match s.agenda with
  | t :: _ => t
  | [] => Config.freeTurn s.turnIx

/-- The state after the turn is chosen. -/
def State.afterTurn (s : State) : State :=
  match s.agenda with
  | _ :: ts => { s with agenda := ts }
  | [] => { s with turnIx := s.turnIx + 1 }

/-! ## Taking a fault, and refusing (R213, R214)

The block has no trap entry and no return from one (R217, R218): a fault is a record (log entry 6). -/

/-- `raise Fault(reason)`: a sticky record with the agent that raised it (R11, R213). -/
def State.raiseAs (a : Agent) (f : Fault) (s : State) : State :=
  if ⟨a, f⟩ ∈ s.faults then s else { s with faults := s.faults ++ [⟨a, f⟩] }

/-- `raise Fault(reason)` by the agent whose step this is. -/
def State.raise (f : Fault) (s : State) : State := s.raiseAs s.actor f

/-- `refuse(reason)`: the sticky mark; a mark already set stays (R11, R214). -/
def State.refuse (r : Refusal) (s : State) : State :=
  { s with refusal := some (s.refusal.getD r) }

/-- Whether an agent has raised a fault, and so takes no further step (R213). -/
def State.halted (a : Agent) (s : State) : Bool := s.faults.any (fun r => r.agent == a)

/-- The fault a rejected word is, when performed (R87, R88). -/
def faultOf : Verdict → Fault
  | .badWidth a => .badWidth a
  | .misaligned p => .misaligned p
  | .unmappedAccess p => .unmappedAccess p
  | .wrongDirection h port => .wrongDirection h port
  | .illegalCommand c => .illegalCommand c

/-! ## Ownership (R220) -/

/-- While `E[h]` runs a command, only `E[h]` may access controller `h`. -/
def State.mayAccess (h : Handle) (s : State) : Bool :=
  !(s.eng.get h).busyCmd || s.actor == .engine h

/-- An access to controller `h` by the agent whose step this is, refused when it is not the owner (log entry 8). -/
def accessCtrl (h : Handle) (s : State) (k : Ctrl → Out) : Out :=
  if s.mayAccess h then k (s.ctrl.get h) else .next (s.refuse (.ownershipViolation h))

/-! ## Controller bookkeeping -/

/-- Settle bookkeeping of a register write (R28). -/
def Ctrl.touch (now : Nat) (c : Ctrl) : Ctrl := { c with tLastw := some now }

/-- The fields of a `COMMAND1` write (R101). -/
def Ctrl.setCommand1 (p : Params) (d : Word) (c : Ctrl) : Ctrl := { c with command1 := storeCommand1 p d }

/-- The field of a `BLK_SIZE` write (R108). -/
def Ctrl.setBlkSize (p : Params) (d : Word) (c : Ctrl) : Ctrl := { c with blkSize := storeBlkSize p d }

/-- A push of the TX FIFO port, or the overflow that drops the word (R109, R153). -/
def Ctrl.pushTx (p : Params) (d : Word) (c : Ctrl) : Ctrl :=
  if c.txq.length < p.fifoDepth then { c with txq := c.txq ++ [d] } else c.flagTxOvf

/-- The value of an RX FIFO read: the head, or a drawn word when empty (R110). -/
def Ctrl.rxValue (c : Ctrl) (draw : Word) : Word := c.rxq.headD draw

/-- A pop of the RX FIFO port, or the underflow (R110, R154). -/
def Ctrl.popRx (c : Ctrl) : Ctrl :=
  match c.rxq with
  | _ :: q => { c with rxq := q }
  | [] => c.flagRxUnf

/-! ## Transfer start (R140 to R142) -/

/-- At least T_SETTLE_US since the last register write, or none yet (R140, R243). -/
def Ctrl.settled (now : Nat) (c : Ctrl) : Bool :=
  match c.tLastw with
  | none => true
  | some t => decide (Config.tSettleUs ≤ now - t)

/-- The checks of a `COMMAND1` configuration, in the order of R141. -/
def checkConfig (p : Params) (w : Word) : Option Unsupported :=
  if bitLength p w ≠ 7 then some .bitLength
  else if packedBit p w then some .packed
  else if !csSwHw p w then some .hwChipSelect
  else if !txEn p w && !rxEn p w then some .noDirection
  else none

/-- A controller that starts a transfer (R140, R142); RDY is not changed (R33). -/
def Ctrl.start (p : Params) (now : Nat) (c : Ctrl) : Ctrl :=
  { c with
    lat := { txEn := txEn p c.command1, rxEn := rxEn p c.command1, lsbitFe := lsbitFe p c.command1 }
    framesLeft := blockFrames c.blkSize
    busy := true
    stale := true
    tTrig := now }

/-- `start_transfer(h)`, with the fields of the write already stored; `t_lastw` is set only when the checks pass (R28, R101,
R140, log entry 13). -/
def startTransfer (h : Handle) (s : State) : State :=
  let c := s.ctrl.get h
  if !c.settled s.now then s.raise (.hazardSettle h)
  else if c.flushTx || c.flushRx then s.raise (.triggerDuringFlush h)
  else
    match checkConfig s.cfg c.command1 with
    | some why => s.refuse (.unsupportedConfig h why)
    | none => s.setCtrl h ((c.start s.cfg s.now).touch s.now)

/-! ## Results (R171) -/

/-- A result handed to the host. -/
def State.hand (h : Handle) (r : Result) (s : State) : State := { s with results := s.results ++ [(h, r)] }

/-- `return r`: the command ends with a result (R171). -/
def State.finish (h : Handle) (r : Result) (s : State) : State :=
  (s.setEng h { s.eng.get h with result := some r, busyCmd := false }).hand h r

end Sys2Proof.Machine
end

