-- ==== Sys2Proof/Machine/Controller.lean ====
section
/-! DEFINITION. The controller's own steps (41_controller_operation R143 to R149): frame, completion, flush completion. Each is
taken only when it is enabled (R10); a turn that names a step not enabled changes nothing (log entry 1). -/

namespace Sys2Proof.Machine

open Sys2Proof.Config (Params)

/-! ## Frames (R143 to R146) -/

/-- Enabled while a block is not yet shifted (R143). -/
def Ctrl.frameEnabled (c : Ctrl) : Bool := c.busy && decide (0 < c.framesLeft)

/-- The byte shifted out: the low byte of the head of the TX FIFO, or any value with transmit off or on underrun (R143). -/
def Ctrl.frameMosi (i : FrameInputs) (c : Ctrl) : Byte :=
  if c.lat.txEn then (c.txq.head?.map lowByte).getD i.mosiFree else i.mosiFree

/-- The transmit side: one entry popped, or the underrun (R143, R144). -/
def Ctrl.frameTx (c : Ctrl) : Ctrl :=
  if c.lat.txEn then
    match c.txq with
    | _ :: q => { c with txq := q }
    | [] => c.flagTxUnf
  else c

/-- The receive side: one entry pushed, or the overrun that drops the byte (R143, R144). -/
def Ctrl.frameRx (p : Params) (i : FrameInputs) (c : Ctrl) : Ctrl :=
  if c.lat.rxEn then
    if c.rxq.length < p.fifoDepth then { c with rxq := c.rxq ++ [rxEntry i.upper i.miso] } else c.flagRxOvf
  else c

/-- The generic error of a frame (R143, R151). -/
def Ctrl.frameGeneric (i : FrameInputs) (c : Ctrl) : Ctrl := if i.genericError then c.flagGeneric else c

/-- The event recorded (R143, R145, R155); the levels follow `COMMAND1` at this moment. -/
def Ctrl.frameEvent (p : Params) (h : Handle) (i : FrameInputs) (c : Ctrl) : Frame where
  ctrl := h
  cs := csLevels p c.command1 i.csFree
  mosi := c.frameMosi i
  miso := i.miso
  lsbFirst := c.lat.lsbitFe

/-- One frame (R143). -/
def Ctrl.frame (p : Params) (h : Handle) (i : FrameInputs) (c : Ctrl) : Ctrl :=
  let c' := (c.frameTx.frameRx p i).frameGeneric i
  { c' with wire := c.wire ++ [c.frameEvent p h i], framesLeft := c.framesLeft - 1 }

/-- The draws of a frame: two words of the state's draws (log entry 2). -/
def State.frameInputs (s : State) : FrameInputs := .ofWords s.drawn s.afterDraw.drawn

/-- The frame step of controller `h` (R143). -/
def frameStep (h : Handle) (s : State) : State :=
  let c := s.ctrl.get h
  if c.frameEnabled then s.afterDraw.afterDraw.setCtrl h (c.frame s.cfg h s.frameInputs) else s

/-! ## Completion (R147) -/

/-- Enabled when the block is shifted (R147). -/
def Ctrl.completeEnabled (c : Ctrl) : Bool := c.busy && c.framesLeft == 0

/-- PIO reads 0 and RDY is set, in one step (R147). -/
def Ctrl.complete (c : Ctrl) : Ctrl := { c with busy := false, rdy := true }

/-- The completion step of controller `h` (R147). -/
def completeStep (h : Handle) (s : State) : State :=
  let c := s.ctrl.get h
  if c.completeEnabled then s.setCtrl h c.complete else s

/-! ## Flush completion (R149) -/

/-- The TX FIFO is emptied and its flush bit deasserts (R149). -/
def Ctrl.endFlushTx (c : Ctrl) : Ctrl := { c with txq := [], flushTx := false }

/-- The RX FIFO is emptied and its flush bit deasserts (R149). -/
def Ctrl.endFlushRx (c : Ctrl) : Ctrl := { c with rxq := [], flushRx := false }

/-- The TX flush completion of controller `h`, enabled while the flush is pending (R149). -/
def flushTxStep (h : Handle) (s : State) : State :=
  let c := s.ctrl.get h
  if c.flushTx then s.setCtrl h c.endFlushTx else s

/-- The RX flush completion of controller `h`, enabled while the flush is pending (R149). -/
def flushRxStep (h : Handle) (s : State) : State :=
  let c := s.ctrl.get h
  if c.flushRx then s.setCtrl h c.endFlushRx else s

end Sys2Proof.Machine
end

