-- ==== Sys2Proof/Machine/Commands.lean ====
section
/-! DEFINITION. The engine commands: what the host's handing over of a command does (42_polling_engine R170, R179, R181).

Acceptance is one step of the host; the numbered steps of the command are then steps of the engine, one bus access each,
between which any other agent may step (R10, R24; log entry 27): `Machine/Engine.lean`. -/

namespace Sys2Proof.Machine

/-- `E.busy_cmd <- true; E.op <- op; E.pc <- 1` on an engine whose arguments are already in place (R170). -/
def Engine.accept (op : EngineOp) (e : Engine) : Engine := { e with busyCmd := true, op := op, pc := 1 }

/-- The check every command makes first: one command at a time (R170, R220). -/
def whenIdle (h : Handle) (s : State) (k : Engine → State) : State :=
  if (s.eng.get h).busyCmd then s.refuse (.concurrentCommand h) else k (s.eng.get h)

/-- The check of SEND and RECEIVE: INIT has completed (R170). -/
def whenInitialized (h : Handle) (s : State) (k : Engine → State) : State :=
  whenIdle h s fun e => if e.initialized then k e else s.refuse (.notInitialized h)

/-- INIT: refused when it has completed before (R170, R177). -/
def execInit (h : Handle) (s : State) : Out :=
  .next (whenIdle h s fun e =>
    if e.initialized then s.refuse (.initTwice h) else s.setEng h (e.accept .init))

/-- FLUSH_FIFOS: accepted before INIT too (R170, R178). -/
def execFlushFifos (h : Handle) (s : State) : Out :=
  .next (whenIdle h s fun e => s.setEng h (e.accept .flushFifos))

/-- SEND: another length than four bytes is the result Invalid Argument at once, with no bus access and the engine and the
controller unchanged (R170, R179, R211, log entry 12); the buffer is read only here (R186). -/
def execSend (h : Handle) (len : BitVec 16) (bytes : List Byte) (s : State) : Out :=
  .next (whenInitialized h s fun e =>
    if len.toNat ≠ Config.sendLen ∨ bytes.length ≠ len.toNat then s.hand h .invalidArgument
    else
      match TxBuf.ofList bytes with
      | some b => s.setEng h ({ e with txbuf := b }.accept .send)
      | none => s.hand h .invalidArgument)

/-- RECEIVE: a length outside `1..FIFO_DEPTH` is refused (R170, R181). -/
def execReceive (h : Handle) (len : BitVec 16) (s : State) : Out :=
  .next (whenInitialized h s fun e =>
    if len.toNat < 1 ∨ s.cfg.fifoDepth < len.toNat then s.refuse (.receiveLength len.toNat)
    else s.setEng h ({ e with len := len.toNat }.accept .receive))

end Sys2Proof.Machine
end

