-- ==== Sys2Proof/Machine/RegisterAccess.lean ====
section
/-! DEFINITION. The register accesses of a controller (40_register_access R100 to R110): one meaning per `ACC` row.

The access is performed by `s.actor`; every meaning first asks whether that agent may access the controller (R220). -/

namespace Sys2Proof.Machine

/-- RD.COMMAND1 (R100): the dummy read may close the stale window (R27). -/
def execRdCommand1 (h : Handle) (s : State) : Out :=
  accessCtrl h s fun c =>
    .next ((s.afterDraw.setCtrl h (c.closeStale s.now)).returnRead (command1Word s.cfg c.command1 c.busy s.drawn))

/-- WR.COMMAND1 (R101, R102): the fields are stored before a transfer start is checked. -/
def execWrCommand1 (h : Handle) (d : Word) (s : State) : Out :=
  accessCtrl h s fun c =>
    if c.busy then .next (s.raise (.writeWhileBusy h .command1))
    else if pioBit s.cfg d then .next (startTransfer h (s.setCtrl h (c.setCommand1 s.cfg d)))
    else .next (s.setCtrl h ((c.setCommand1 s.cfg d).touch s.now))

/-- RD.TRANS_STATUS (R103): no side effect. -/
def execRdTransStatus (h : Handle) (s : State) : Out :=
  accessCtrl h s fun c => .next (s.afterDraw.returnRead (transStatusWord s.cfg c s.drawn))

/-- WR.TRANS_STATUS (R104): write 1 to clear RDY; legal while busy. -/
def execWrTransStatus (h : Handle) (d : Word) (s : State) : Out :=
  accessCtrl h s fun c => .next (s.setCtrl h ((c.clearRdy s.cfg d).touch s.now))

/-- RD.FIFO_STATUS (R105): no side effect. -/
def execRdFifoStatus (h : Handle) (s : State) : Out :=
  accessCtrl h s fun c => .next (s.afterDraw.returnRead (fifoStatusWord s.cfg c s.drawn))

/-- WR.FIFO_STATUS (R106): clears error flags and starts flushes, in one step. -/
def execWrFifoStatus (h : Handle) (d : Word) (s : State) : Out :=
  accessCtrl h s fun c =>
    if asksFlush s.cfg d && c.busy then .next (s.raise (.flushWhileBusy h))
    else .next (s.setCtrl h (((c.clearErrors s.cfg d).startFlush s.cfg d).touch s.now))

/-- RD.BLK_SIZE (R107): no side effect. -/
def execRdBlkSize (h : Handle) (s : State) : Out :=
  accessCtrl h s fun c => .next (s.afterDraw.returnRead (blkSizeWord s.cfg c.blkSize s.drawn))

/-- WR.BLK_SIZE (R108). -/
def execWrBlkSize (h : Handle) (d : Word) (s : State) : Out :=
  accessCtrl h s fun c =>
    if c.busy then .next (s.raise (.writeWhileBusy h .blkSize))
    else .next (s.setCtrl h ((c.setBlkSize s.cfg d).touch s.now))

/-- WR.TX_FIFO (R109): one word pushed or dropped, legal while busy. -/
def execWrTxFifo (h : Handle) (d : Word) (s : State) : Out :=
  accessCtrl h s fun c =>
    if c.flushTx then .next (s.raise (.fifoAccessDuringFlush h .tx))
    else .next (s.setCtrl h ((c.touch s.now).pushTx s.cfg d))

/-- RD.RX_FIFO (R110): one word popped; on an empty FIFO a draw and the underflow flags. The draw is taken only there. -/
def execRdRxFifo (h : Handle) (s : State) : Out :=
  accessCtrl h s fun c =>
    if c.flushRx then .next (s.raise (.fifoAccessDuringFlush h .rx))
    else
      let s' := if c.rxq.isEmpty then s.afterDraw else s
      .next ((s'.setCtrl h c.popRx).returnRead (c.rxValue s.drawn))

end Sys2Proof.Machine
end

