-- ==== Sys2Proof/Machine/TimeBase.lean ====
section
/-! DEFINITION. The Time Base accesses (60_exceptions R222 to R226): one meaning per `ACC` row. -/

namespace Sys2Proof.Machine

/-- RD.TMR_CNTR_1US (R222): no side effect. -/
def execRdTmrCntr1us (s : State) : Out := .next (s.returnRead (counterWord s.tmr s.now))

/-- WR.TMR_CNTR_1US (R226): refused whatever the data. -/
def execWrTmrCntr1us (_d : Word) (s : State) : Out := .next (s.refuse .timerCounterWrite)

/-- RD.TMR_USEC_CFG (R223): the bits of no field drawn. -/
def execRdTmrUsecCfg (s : State) : Out :=
  .next (s.afterDraw.returnRead (usecCfgWord s.cfg s.tmr.usecCfg s.drawn))

/-- WR.TMR_USEC_CFG (R223): a value other than the configured one is refused; the model's counter rate is fixed. -/
def execWrTmrUsecCfg (d : Word) (s : State) : Out :=
  if usecCfgField s.cfg d ≠ usecCfgOf s.cfg then .next (s.refuse .timerReconfigured)
  else .next { s with tmr := { s.tmr with usecCfg := usecCfgField s.cfg d } }

/-- RD.TMR_CNTR_FREEZE (R224): the bits of no field drawn. -/
def execRdTmrCntrFreeze (s : State) : Out :=
  .next (s.afterDraw.returnRead (freezeWord s.cfg s.tmr.freeze s.drawn))

/-- WR.TMR_CNTR_FREEZE (R224): storage with no effect on the counter. -/
def execWrTmrCntrFreeze (d : Word) (s : State) : Out :=
  .next { s with tmr := { s.tmr with freeze := freezeField s.cfg d } }

end Sys2Proof.Machine
end

