-- ==== Sys2Proof/Machine/Dispatch.lean ====
section
/-! DEFINITION. One arm per instruction, each a direct call of its meaning. -/

namespace Sys2Proof.Machine

def exec (i : Instr) (s : State) : Host.Outcome State Fault Refusal :=
  match i with
  | .rdCommand1 h => Sys2Proof.Machine.execRdCommand1 h s
  | .wrCommand1 h d => Sys2Proof.Machine.execWrCommand1 h d s
  | .rdTransStatus h => Sys2Proof.Machine.execRdTransStatus h s
  | .wrTransStatus h d => Sys2Proof.Machine.execWrTransStatus h d s
  | .rdFifoStatus h => Sys2Proof.Machine.execRdFifoStatus h s
  | .wrFifoStatus h d => Sys2Proof.Machine.execWrFifoStatus h d s
  | .rdBlkSize h => Sys2Proof.Machine.execRdBlkSize h s
  | .wrBlkSize h d => Sys2Proof.Machine.execWrBlkSize h d s
  | .wrTxFifo h d => Sys2Proof.Machine.execWrTxFifo h d s
  | .rdRxFifo h => Sys2Proof.Machine.execRdRxFifo h s
  | .rdTmrCntr1us => Sys2Proof.Machine.execRdTmrCntr1us s
  | .wrTmrCntr1us d => Sys2Proof.Machine.execWrTmrCntr1us d s
  | .rdTmrUsecCfg => Sys2Proof.Machine.execRdTmrUsecCfg s
  | .wrTmrUsecCfg d => Sys2Proof.Machine.execWrTmrUsecCfg d s
  | .rdTmrCntrFreeze => Sys2Proof.Machine.execRdTmrCntrFreeze s
  | .wrTmrCntrFreeze d => Sys2Proof.Machine.execWrTmrCntrFreeze d s
  | .init h => Sys2Proof.Machine.execInit h s
  | .flushFifos h => Sys2Proof.Machine.execFlushFifos h s
  | .send h len bytes => Sys2Proof.Machine.execSend h len bytes s
  | .receive h len => Sys2Proof.Machine.execReceive h len s

end Sys2Proof.Machine
end

