-- ==== Sys2Proof/Machine/Engine.lean ====
section
/-! DEFINITION. The polling engine's steps (42_polling_engine R172 to R183): the numbered step lists of the four commands, and
one step of one engine. An engine's bus access is an instruction like any master's, performed through `exec`. -/

namespace Sys2Proof.Machine

open Sys2Proof.Config (Params)

/-! ## Step lists (R177, R178, R180, R182) -/

/-- The flush that opens SEND and RECEIVE and stands inside INIT: wait ready, both triggers in one write, wait until both
deassert (R178). -/
def flushSteps (p : Params) : List Micro :=
  [.pollTransStatus (mRdy p) (mRdy p), .writeFifoStatus (mFlushBoth p), .pollFifoStatus (mFlushBoth p) 0]

/-- INIT's steps 1 to 8 (R177). -/
def initSteps (p : Params) : List Micro :=
  [.readCommand1,
   .writeCommand1 (mCsSwHw p ||| mCsSwVal p ||| mLsbitFe p ||| mPacked p ||| mBitLength p)
     (mCsSwHw p ||| mCsSwVal p ||| vBits8 p)] ++
  flushSteps p ++
  [.readCommand1, .writeCommand1 (mCsSel p ||| mCsSwVal p) 0, .finishInit]

/-- FLUSH_FIFOS's steps 1 to 4 (R178). -/
def flushFifosSteps (p : Params) : List Micro := flushSteps p ++ [.finishOk]

/-- Steps 1 to 9 of a transfer of `n` bytes in the direction whose enable bit is `en`: flush, unpacked 8-bit mode, block size
`n - 1`, ready cleared, direction enabled (R180, R182). -/
def prepareSteps (p : Params) (n : Nat) (en : Word) : List Micro :=
  flushSteps p ++
  [.readCommand1, .writeCommand1 (mPacked p ||| mBitLength p) (vBits8 p),
   .writeBlkSize (BitVec.ofNat 32 (n - 1)), .writeTransStatus (mRdy p),
   .readCommand1, .writeCommand1 0 en]

/-- Settle, trigger, delay, dummy read, ready-wait, enable cleared (R180 steps 11 to 20, R182 steps 10 to 19). -/
def triggerSteps (p : Params) (en : Word) : List Micro :=
  [.delayStart, .delayWait Config.tSettleUs,
   .readCommand1, .writeCommand1 0 (mPio p),
   .delayStart, .delayWait Config.tTriggerUs,
   .dummyRead, .pollTransStatus (mRdy p) (mRdy p),
   .readCommand1, .writeCommand1 en 0]

/-- SEND's steps 1 to 22 (R180). -/
def sendSteps (p : Params) (word : Word) : List Micro :=
  prepareSteps p Config.sendLen (mTxEn p) ++ [.writeTxFifo word] ++ triggerSteps p (mTxEn p) ++
  [.checkErrReturn, .clearErrAndFail]

/-- RECEIVE's steps 1 to 23 (R182). -/
def receiveSteps (p : Params) (len : Nat) : List Micro :=
  prepareSteps p len (mRxEn p) ++ triggerSteps p (mRxEn p) ++
  [.checkErrDrain 22, .clearErrAndFail, .drain, .finishData]

/-- The step list of the running command. -/
def Engine.steps (p : Params) (e : Engine) : List Micro :=
  match e.op with
  | .init => initSteps p
  | .flushFifos => flushFifosSteps p
  | .send => sendSteps p (pack e.txbuf)
  | .receive => receiveSteps p e.len

/-- The next step: `pc` counts from 1 (R24, R170); outside the list there is none (log entry 14). -/
def Engine.micro? (p : Params) (e : Engine) : Option Micro :=
  match e.pc with
  | 0 => none
  | n + 1 => (e.steps p)[n]?

/-! ## One step (R24) -/

/-- A bus access of engine `h`, and what the engine does after it. An access that faults or is refused ends the step: the
engine takes no further one (R213, R214, log entry 14). -/
def engineAccess (h : Handle) (i : Instr) (s : State) (after : State → State) : Out :=
  match exec i s with
  | .next t => .next (if t.halted (.engine h) || t.refusal.isSome then t else after t)
  | .fault r => .fault r
  | .refused r => .refused r

/-- `pc <- next`, with a change of the locals. -/
def State.advance (h : Handle) (f : Engine → Engine) (s : State) : State :=
  let e := f (s.eng.get h)
  s.setEng h { e with pc := e.pc + 1 }

/-- After a poll's read: the value is kept, and `pc` moves on only when the condition holds (R174). There is no bound. -/
def State.pollNext (h : Handle) (mask eq : Word) (s : State) : State :=
  let e := { s.eng.get h with scratch := s.rdata }
  s.setEng h (if s.rdata &&& mask = eq then { e with pc := e.pc + 1 } else e)

/-- After a delay's read (R176). -/
def State.delayNext (h : Handle) (n : Nat) (s : State) : State :=
  let e := s.eng.get h
  if elapsed s.rdata e.t0 < n then s else s.setEng h { e with pc := e.pc + 1 }

/-- After SEND's error read: `Ok`, or on to the clear (R180 step 21). -/
def State.errNext (h : Handle) (s : State) : State :=
  let s' := s.setEng h { s.eng.get h with scratch := s.rdata }
  if s.rdata &&& mErr s.cfg = 0 then s'.finish h .ok else s'.advance h id

/-- After RECEIVE's error read: to the drain with an empty output, or on to the clear (R182 step 20). -/
def State.errDrainNext (h : Handle) (drainPc : Nat) (s : State) : State :=
  let e := { s.eng.get h with scratch := s.rdata }
  if s.rdata &&& mErr s.cfg = 0 then s.setEng h { e with k := 0, out := [], pc := drainPc }
  else s.setEng h { e with pc := e.pc + 1 }

/-- After one read of the drain: the low byte is kept, and the step is taken `L` times in all (R182 step 22, R189). -/
def State.drainNext (h : Handle) (s : State) : State :=
  let e := s.eng.get h
  let e' := { e with out := e.out ++ [lowByte s.rdata], k := e.k + 1 }
  s.setEng h (if e.k + 1 < e.len then e' else { e' with pc := e.pc + 1 })

/-- One step of engine `h`, which is running a command and whose turn it is (R24, R173 to R183). -/
def runMicro (h : Handle) (m : Micro) (s : State) : Out :=
  match m with
  | .readCommand1 => engineAccess h (.rdCommand1 h) s fun t => t.advance h fun e => { e with scratch := t.rdata }
  | .writeCommand1 clr set =>
    engineAccess h (.wrCommand1 h (rmwWord (s.eng.get h).scratch clr set)) s fun t => t.advance h id
  | .pollTransStatus mask eq => engineAccess h (.rdTransStatus h) s fun t => t.pollNext h mask eq
  | .pollFifoStatus mask eq => engineAccess h (.rdFifoStatus h) s fun t => t.pollNext h mask eq
  | .writeTransStatus v => engineAccess h (.wrTransStatus h v) s fun t => t.advance h id
  | .writeFifoStatus v => engineAccess h (.wrFifoStatus h v) s fun t => t.advance h id
  | .writeBlkSize v => engineAccess h (.wrBlkSize h v) s fun t => t.advance h id
  | .writeTxFifo v => engineAccess h (.wrTxFifo h v) s fun t => t.advance h id
  | .delayStart => engineAccess h .rdTmrCntr1us s fun t => t.advance h fun e => { e with t0 := t.rdata }
  | .delayWait n => engineAccess h .rdTmrCntr1us s fun t => t.delayNext h n
  | .dummyRead => engineAccess h (.rdCommand1 h) s fun t => t.advance h id
  | .checkErrReturn => engineAccess h (.rdFifoStatus h) s fun t => t.errNext h
  | .checkErrDrain drainPc => engineAccess h (.rdFifoStatus h) s fun t => t.errDrainNext h drainPc
  | .clearErrAndFail => engineAccess h (.wrFifoStatus h (mErrAll s.cfg)) s fun t => t.finish h .transferError
  | .drain => engineAccess h (.rdRxFifo h) s fun t => t.drainNext h
  | .finishInit => .next ((s.setEng h { s.eng.get h with initialized := true }).finish h .ok)
  | .finishOk => .next (s.finish h .ok)
  | .finishData => .next (s.finish h (.okData (s.eng.get h).out))

/-- Whether engine `h` has a step to take: a command runs, and the engine raised no fault (R10, R213). -/
def State.engineEnabled (h : Handle) (s : State) : Bool := (s.eng.get h).busyCmd && !s.halted (.engine h)

/-- The turn of engine `h`. -/
def engineStep (h : Handle) (s : State) : Out :=
  if s.engineEnabled h then
    match (s.eng.get h).micro? s.cfg with
    | some m => runMicro h m s
    | none => .next s
  else .next s

/-! ## The source's state machine (R172, log entry 19) -/

/-- One row of the table of R172: the engine has the name while its next step is one of `first` to `last`. -/
structure PhaseRow where
  phase : Phase
  first : Nat
  last  : Nat
  deriving DecidableEq, Repr

/-- The column of SEND: "before step 1" is step 1 next; "after step n" is from step n + 1 next up to the next name's; after
step 14 is also the first of the "steps 15 to 18" (R172). -/
def sendPhases : List PhaseRow :=
  [⟨.idle, 1, 1⟩, ⟨.flushed, 4, 7⟩, ⟨.configured, 8, 10⟩, ⟨.enabled, 11, 14⟩, ⟨.triggered, 15, 15⟩, ⟨.awaitingReady, 15, 18⟩]

/-- The column of RECEIVE (R172). -/
def receivePhases : List PhaseRow :=
  [⟨.idle, 1, 1⟩, ⟨.flushed, 4, 7⟩, ⟨.configured, 8, 9⟩, ⟨.enabled, 10, 13⟩, ⟨.triggered, 14, 14⟩, ⟨.awaitingReady, 14, 17⟩]

/-- The names of a running command: R172 maps the steps of SEND and RECEIVE only. -/
def Engine.runningPhases (e : Engine) : List Phase :=
  let rows := match e.op with
    | .init => []
    | .flushFifos => []
    | .send => sendPhases
    | .receive => receivePhases
  (rows.filter (fun r => r.first ≤ e.pc && e.pc ≤ r.last)).map (·.phase)

/-- The result of the last command engine `h` carried out; an Invalid Argument was handed back without one (R179). -/
def State.lastResult (h : Handle) (s : State) : Option Result :=
  ((s.results.filter (fun r => r.1 == h && r.2 != .invalidArgument)).getLast?).map (·.2)

/-- The name of an engine between commands: Idle before the first transfer, then how the last command ended (R172). -/
def endPhase (op : EngineOp) : Option Result → Phase
  | some .transferError => .errored
  | some (.okData _) => .completed
  | some .ok => if op = .send then .completed else .idle
  | some .invalidArgument => .idle
  | none => .idle

/-- The names R172 gives to where engine `h` is: two right after the trigger, none at the steps the table leaves out. -/
def State.phases (h : Handle) (s : State) : List Phase :=
  let e := s.eng.get h
  if e.busyCmd then e.runningPhases else [endPhase e.op (s.lastResult h)]

end Sys2Proof.Machine
end

