-- ==== Sys2Proof/Machine/Turns.lean ====
section
/-! DEFINITION. The turn of each agent (00_scope R10): what a bus master or the host issues is decoded and performed here. -/

namespace Sys2Proof.Machine

open Sys2Proof.Config (Agent Turn Access)

/-- The agent a turn belongs to (R10). -/
def turnAgent : Turn → Agent
  | .engine h => .engine h
  | .frame h => .controller h
  | .complete h => .controller h
  | .flushTx h => .controller h
  | .flushRx h => .controller h
  | .time => .time
  | .host _ _ => .host
  | .master m _ => .master m

/-- The Time agent's only step (R225). -/
def timeStep (s : State) : State := { s with now := s.now + 1 }

/-- The host hands a word to the engine it names, in the order of R170: a busy engine, then a malformed word, which that
engine faults (R88, log entry 11), then the command. -/
def hostStep (c : Word) (bytes : List Byte) (s : State) : Out :=
  let h := Handle.ofBits (cmdH c)
  if (s.eng.get h).busyCmd then .next (s.refuse (.concurrentCommand h))
  else
    match decodeCmd c bytes with
    | .ok i => exec i s
    | .error v => .next (s.raiseAs (.engine h) (faultOf v))

/-- A bus master issues one access; one that raised a fault takes no further step (R10, R213). -/
def masterStep (m : Nat) (a : Access) (s : State) : Out :=
  if s.halted (.master m) then .next s
  else
    match decodeAccess s.cfg a with
    | .ok i => exec i s
    | .error v => .next (s.raise (faultOf v))

/-- What the agent whose turn it is does. A turn that is not enabled changes nothing (log entry 1). -/
def takeTurn (t : Turn) (s : State) : Out :=
  match t with
  | .engine h => engineStep h s
  | .frame h => .next (frameStep h s)
  | .complete h => .next (completeStep h s)
  | .flushTx h => .next (flushTxStep h s)
  | .flushRx h => .next (flushRxStep h s)
  | .time => .next (timeStep s)
  | .host c bytes => hostStep c bytes s
  | .master m a => masterStep m a s

/-- The state in which the agent whose turn it is moves: the turn is taken off, and the agent is the one that acts. -/
def State.begin (s : State) : State := s.afterTurn.as (turnAgent s.turn)

/-- One step: from a refused state no step has a meaning (R214); else the agent whose turn it is moves. -/
def stepOnce (s : State) : Out :=
  match s.refusal with
  | some r => .refused r
  | none => takeTurn s.turn s.begin

/-- The turn that issues the words of an instruction: a bus master an access, the host a command (R80, R89). -/
def issueTurn : Words → Turn
  | .acc d data => .master 0 (.acc d (data.getD 0))
  | .cmd c bytes => .host c bytes

end Sys2Proof.Machine
end

