-- ==== Sys2Proof/Machine/Step.lean ====
section
/-! DEFINITION. The step of the machine, and where an instruction is placed so that the next step runs it (log entry 16). -/

namespace Sys2Proof.Machine

/-- One step of one agent (R10). -/
def step (s : State) : Host.Outcome State Fault Refusal := stepOnce s

/-- `s` with the instruction of the `nbits`-bit table number `w` issued next: the block fetches nothing (R74), so an
instruction is placed by making it the next turn of the agent that issues it (log entries 16, 17). -/
def State.withFetchWord (s : State) (nbits w : Nat) : State :=
  { s with agenda := issueTurn (tableWords nbits w) :: s.agenda }

end Sys2Proof.Machine
end

