-- ==== Sys2Proof/Machine/Assembly.lean ====
section
/-! DEFINITION. The textual syntax of 30_encoding R90, as a printer: no rule of the machine reads it. -/

namespace Sys2Proof.Machine

/-- `SPI1` to `SPI4` (R21, R90). -/
def handleText : Handle → String
  | .spi1 => "SPI1"
  | .spi2 => "SPI2"
  | .spi3 => "SPI3"
  | .spi4 => "SPI4"

/-- A number in hexadecimal with `0x` (R90). -/
def hexText (n : Nat) : String := "0x" ++ String.ofList (Nat.toDigits 16 n)

/-- `rd32 <blk>.<REG>` (R90). -/
def rdText (blk reg : String) : String := "rd32 " ++ blk ++ "." ++ reg

/-- `wr32 <blk>.<REG>, <imm32>` (R90). -/
def wrText (blk reg : String) (d : Word) : String := "wr32 " ++ blk ++ "." ++ reg ++ ", " ++ hexText d.toNat

/-- The text of an instruction (R90). -/
def instrText : Instr → String
  | .rdCommand1 h => rdText (handleText h) "COMMAND1"
  | .wrCommand1 h d => wrText (handleText h) "COMMAND1" d
  | .rdTransStatus h => rdText (handleText h) "TRANS_STATUS"
  | .wrTransStatus h d => wrText (handleText h) "TRANS_STATUS" d
  | .rdFifoStatus h => rdText (handleText h) "FIFO_STATUS"
  | .wrFifoStatus h d => wrText (handleText h) "FIFO_STATUS" d
  | .rdBlkSize h => rdText (handleText h) "BLK_SIZE"
  | .wrBlkSize h d => wrText (handleText h) "BLK_SIZE" d
  | .wrTxFifo h d => wrText (handleText h) "TX_FIFO" d
  | .rdRxFifo h => rdText (handleText h) "RX_FIFO"
  | .rdTmrCntr1us => rdText "TMR" "CNTR_1US"
  | .wrTmrCntr1us d => wrText "TMR" "CNTR_1US" d
  | .rdTmrUsecCfg => rdText "TMR" "USEC_CFG"
  | .wrTmrUsecCfg d => wrText "TMR" "USEC_CFG" d
  | .rdTmrCntrFreeze => rdText "TMR" "CNTR_FREEZE"
  | .wrTmrCntrFreeze d => wrText "TMR" "CNTR_FREEZE" d
  | .init h => "spi.init " ++ handleText h
  | .flushFifos h => "spi.flush " ++ handleText h
  | .send h _ bytes =>
    "spi.send " ++ handleText h ++ ", [" ++ ", ".intercalate (bytes.map (fun b => hexText b.toNat)) ++ "]"
  | .receive h len => "spi.recv " ++ handleText h ++ ", " ++ toString len.toNat

end Sys2Proof.Machine
end

