-- ==== Sys2Proof/Safety.lean ====
section
/-! DEFINITION. What a run is, when it is final and what is observed of it (42_polling_engine R187); the liveness premises
(41_controller_operation R152, 60_exceptions R225); and the invariants claims use. -/

namespace Sys2Proof.Machine

open Sys2Proof.Config (Params Agent Turn)

/-! ## Final states and the observation (R44, R187) -/

/-- Nothing of controller `h` is under way (R187). -/
def Ctrl.quiet (c : Ctrl) : Bool := !c.busy && !c.flushTx && !c.flushRx

/-- A final state: every command has returned, no transfer and no flush is under way, no fault and no refusal is recorded
(R44, R187). -/
def State.final (s : State) : Bool :=
  Handle.all.all (fun h => !(s.eng.get h).busyCmd && (s.ctrl.get h).quiet) && s.faults.isEmpty && s.refusal.isNone

/-- The draws of one read of each register of a controller. -/
structure CtrlReads where
  command1    : Word
  transStatus : Word
  fifoStatus  : Word
  blkSize     : Word
  deriving DecidableEq, Repr

/-- What the outside supplies to the reads that show a final state: their draws, and the microseconds that pass before the
counter is read (log entry 31). -/
structure Reads where
  ctrl    : PerHandle CtrlReads
  usecCfg : Word
  freeze  : Word
  later   : Nat
  deriving DecidableEq, Repr

/-- What is observed of a controller: the words subsequent reads of its registers return, the FIFOs and the wire (R187). -/
structure CtrlView where
  command1    : Word
  transStatus : Word
  fifoStatus  : Word
  blkSize     : Word
  txq         : List Word
  rxq         : List Word
  wire        : List Frame
  deriving DecidableEq, Repr

/-- What is observed of a final state: the results, the words subsequent reads of the registers return, the FIFOs and the
wires (R187). -/
structure View where
  results  : List (Handle × Result)
  ctrl     : PerHandle CtrlView
  cntr1us  : Word
  usecCfg  : Word
  freeze   : Word
  deriving DecidableEq, Repr

/-- A controller as reads with the draws `r` show it: RDY is a draw while the stale window is open (R27, R103). -/
def Ctrl.view (p : Params) (r : CtrlReads) (c : Ctrl) : CtrlView where
  command1 := command1Word p c.command1 c.busy r.command1
  transStatus := transStatusWord p c r.transStatus
  fifoStatus := fifoStatusWord p c r.fifoStatus
  blkSize := blkSizeWord p c.blkSize r.blkSize
  txq := c.txq
  rxq := c.rxq
  wire := c.wire

/-- The state as the reads `r` show it (R187). -/
def State.view (r : Reads) (s : State) : View where
  results := s.results
  ctrl := ⟨s.ctrl.spi1.view s.cfg r.ctrl.spi1, s.ctrl.spi2.view s.cfg r.ctrl.spi2, s.ctrl.spi3.view s.cfg r.ctrl.spi3,
    s.ctrl.spi4.view s.cfg r.ctrl.spi4⟩
  cntr1us := counterWord s.tmr (s.now + r.later)
  usecCfg := usecCfgWord s.cfg s.tmr.usecCfg r.usecCfg
  freeze := freezeWord s.cfg s.tmr.freeze r.freeze

/-! ## Faults and refusals as claims name them -/

/-- `t` is `s` with one fault recorded, raised by the agent whose step it is, and nothing else changed (R213). -/
def Faulted (f : Fault) (s t : State) : Prop :=
  t = { s with faults := t.faults } ∧ ∀ r, r ∈ t.faults ↔ r ∈ s.faults ∨ r = ⟨s.actor, f⟩

/-- `t` is `s` with the refusal mark set and nothing else changed (R214). -/
def Refused (r : Refusal) (s t : State) : Prop := t = { s with refusal := some r }

/-! ## Runs -/

/-- The run that takes the turns of a list, in order. -/
def runTurns (ts : List Turn) (s : State) : Out :=
  Host.Core.run core ts.length { s with agenda := ts }

/-- `n` turns of engine `h`. -/
def engineTurns (h : Handle) (n : Nat) : List Turn := List.replicate n (.engine h)

/-- An infinite run: `τ n` is whose turn it is at the `n`-th step (R10: any interleaving). -/
def Driven (τ : Nat → Turn) (σ : Nat → State) : Prop :=
  ∀ n, step { σ n with agenda := [τ n] } = .next (σ (n + 1))

/-- A step continuously enabled is eventually taken (R152). -/
def WeaklyFair (enabled : State → Bool) (t : Turn) (τ : Nat → Turn) (σ : Nat → State) : Prop :=
  ∀ n, (∀ m, n ≤ m → enabled (σ m) = true) → ∃ m, n ≤ m ∧ τ m = t

/-- HEALTHY(h): the steps of controller `h` are weakly fair (R152). A premise about a run, not a value. -/
def Healthy (h : Handle) (τ : Nat → Turn) (σ : Nat → State) : Prop :=
  WeaklyFair (fun s => (s.ctrl.get h).frameEnabled) (.frame h) τ σ ∧
  WeaklyFair (fun s => (s.ctrl.get h).completeEnabled) (.complete h) τ σ ∧
  WeaklyFair (fun s => (s.ctrl.get h).flushTx) (.flushTx h) τ σ ∧
  WeaklyFair (fun s => (s.ctrl.get h).flushRx) (.flushRx h) τ σ

/-- The Time agent is always enabled, and weakly fair (R225). -/
def TimeFair (τ : Nat → Turn) (σ : Nat → State) : Prop := WeaklyFair (fun _ => true) .time τ σ

/-! ## Which instructions access a controller -/

/-- The controller a bus access reads or writes; none for the Time Base and the commands (R86). -/
def accessedCtrl : Instr → Option Handle
  | .rdCommand1 h => some h
  | .wrCommand1 h _ => some h
  | .rdTransStatus h => some h
  | .wrTransStatus h _ => some h
  | .rdFifoStatus h => some h
  | .wrFifoStatus h _ => some h
  | .rdBlkSize h => some h
  | .wrBlkSize h _ => some h
  | .wrTxFifo h _ => some h
  | .rdRxFifo h => some h
  | .rdTmrCntr1us => none
  | .wrTmrCntr1us _ => none
  | .rdTmrUsecCfg => none
  | .wrTmrUsecCfg _ => none
  | .rdTmrCntrFreeze => none
  | .wrTmrCntrFreeze _ => none
  | .init _ => none
  | .flushFifos _ => none
  | .send _ _ _ => none
  | .receive _ _ => none

/-! ## The invariant of every reachable state -/

/-- What holds of a controller in every reachable state. -/
structure Ctrl.Ok (p : Params) (h : Handle) (now : Nat) (c : Ctrl) : Prop where
  /-- Only the RW fields of `COMMAND1` are kept (R29, R30). -/
  command1 : c.command1 &&& ~~~mCommand1Rw p = 0
  /-- Only the block-size field is kept (R35). -/
  blkSize : c.blkSize &&& ~~~mBlkSize p = 0
  /-- `0 <= len(q) <= FIFO_DEPTH` always (R38, R114). -/
  txq : c.txq.length ≤ p.fifoDepth
  rxq : c.rxq.length ≤ p.fifoDepth
  /-- A flush cannot be pending while busy (R115). -/
  noFlush : c.busy = true → c.flushTx = false ∧ c.flushRx = false
  /-- A transfer shifts at most the block, and none is left when idle (R140, R147). -/
  idle : c.busy = false → c.framesLeft = 0
  frames : c.framesLeft ≤ blockFrames c.blkSize
  /-- The latched configuration is that of `COMMAND1` throughout the transfer, and it is one R141 admits (R142). -/
  latched : c.busy = true → c.lat = ⟨txEn p c.command1, rxEn p c.command1, lsbitFe p c.command1⟩
  admitted : c.busy = true → checkConfig p c.command1 = none
  /-- The hidden timestamps lie in the past (R25, R28). -/
  lastw : ∀ t, c.tLastw = some t → t ≤ now
  trig : c.stale = true → c.tTrig ≤ now
  /-- The wire history of a controller holds its own frames (R12). -/
  wire : ∀ f ∈ c.wire, f.ctrl = h

/-- What holds of an engine in every reachable state. -/
structure Engine.Ok (p : Params) (e : Engine) : Prop where
  /-- `pc` is an index into the running command's step list (R24). -/
  pc : e.busyCmd = true → 1 ≤ e.pc ∧ e.pc ≤ (e.steps p).length
  /-- No transfer before INIT has completed (R170). -/
  initialized : e.busyCmd = true → e.op = .send ∨ e.op = .receive → e.initialized = true
  /-- RECEIVE's length (R181). -/
  len : e.busyCmd = true → e.op = .receive → 1 ≤ e.len ∧ e.len ≤ p.fifoDepth
  /-- The drain has read `k` of `L` entries, and all of them at the return (R182). -/
  drain : e.busyCmd = true → e.op = .receive → e.pc = 22 → e.out.length = e.k ∧ e.k < e.len
  drained : e.busyCmd = true → e.op = .receive → e.pc = 23 → e.out.length = e.len

/-- The invariant. -/
structure State.Ok (s : State) : Prop where
  ctrl : ∀ h, (s.ctrl.get h).Ok s.cfg h s.now
  eng : ∀ h, (s.eng.get h).Ok s.cfg
  /-- The boot premise: the Time Base stays configured for F_REF (R223, R242). -/
  usecCfg : s.tmr.usecCfg = usecCfgOf s.cfg
  /-- The fault set is a set (R213). -/
  faults : s.faults.Nodup

/-- Draws of reset that R45 admits: only RW fields, FIFOs of at most FIFO_DEPTH entries, a block size of BLK_SIZE_BITS. -/
structure CtrlDraws.Admitted (p : Params) (d : CtrlDraws) : Prop where
  command1 : d.command1 &&& ~~~mCommand1Rw p = 0
  blkSize : d.blkSize &&& ~~~mBlkSize p = 0
  txq : d.txq.length ≤ p.fifoDepth
  rxq : d.rxq.length ≤ p.fifoDepth

def ResetDraws.Admitted (p : Params) (d : ResetDraws) : Prop := ∀ h, (d.ctrl.get h).Admitted p

/-! ## Why a SEND fails (90_conflicts C1; R144, R180)

SEND writes one TX FIFO word for a block of four frames, so its second frame underruns and sets ERR, which nothing clears
before the error check of step 21. `SendFails` says, for each step the engine may be at, what makes that so. -/

/-- The controller while a SEND's transfer runs or has ended: no TX flush pending (R115), one entry for four frames,
and ERR from the second on. -/
structure SendShifting (c : Ctrl) (now : Nat) : Prop where
  trig : c.tTrig ≤ now
  run : (c.busy = true ∧ c.flushTx = false ∧ c.rdy = false ∧ c.lat.txEn = true ∧
      ((c.framesLeft = 4 ∧ c.txq.length = 1) ∨ (c.framesLeft = 3 ∧ c.txq = []) ∨ (c.framesLeft ≤ 2 ∧ c.err = true))) ∨
    (c.busy = false ∧ c.err = true)

/-- The controller while a SEND prepares: idle, not flushing the TX FIFO, which is empty. -/
def SendEmpty (c : Ctrl) : Prop := c.busy = false ∧ c.flushTx = false ∧ c.txq = []

/-- What holds at each step of a SEND of engine `h` (R180). -/
def SendFails (h : Handle) (s : State) : Prop :=
  let c := s.ctrl.get h
  let e := s.eng.get h
  e.busyCmd = true → e.op = .send →
    match e.pc with
    | 3 => c.busy = false ∧ (c.flushTx = true ∨ c.txq = [])
    | 4 => SendEmpty c
    | 5 => SendEmpty c ∧ pioBit s.cfg e.scratch = false
    | 6 => SendEmpty c
    | 7 => SendEmpty c ∧ c.blkSize = 3
    | 8 => SendEmpty c ∧ c.blkSize = 3 ∧ c.rdy = false
    | 9 => SendEmpty c ∧ c.blkSize = 3 ∧ c.rdy = false ∧ pioBit s.cfg e.scratch = false
    | 10 => SendEmpty c ∧ c.blkSize = 3 ∧ c.rdy = false ∧ txEn s.cfg c.command1 = true
    | 11 | 12 | 13 =>
      c.busy = false ∧ c.txq.length = 1 ∧ c.flushTx = false ∧ c.blkSize = 3 ∧ c.rdy = false ∧
        txEn s.cfg c.command1 = true
    | 14 =>
      c.busy = false ∧ c.txq.length = 1 ∧ c.flushTx = false ∧ c.blkSize = 3 ∧ c.rdy = false ∧
        txEn s.cfg c.command1 = true ∧ txEn s.cfg e.scratch = true
    | 15 => SendShifting c s.now
    | 16 => SendShifting c s.now ∧ ∃ n, c.tTrig ≤ n ∧ n ≤ s.now ∧ e.t0 = counterWord s.tmr n
    | 17 => SendShifting c s.now ∧ c.tTrig + 1 ≤ s.now
    | 18 => SendShifting c s.now ∧ c.stale = false
    | 19 => c.busy = false ∧ c.err = true
    | 20 => c.busy = false ∧ c.err = true ∧ pioBit s.cfg e.scratch = false
    | 21 => c.busy = false ∧ c.err = true
    | _ => True

end Sys2Proof.Machine
end

