-- ==== Sys2Proof/Certificates/Slice0/Obligations.lean ====
section
/-! DEFINITION. The statements for the provers. Each docstring names the rules of spec/ it formalises.

A statement that names a bit position or a constant of a register word has the default layout as its hypothesis
(`s.cfg = Config.defaults`), as 91_not_in_source N1 asks. `D<n>` is a decision of 92_eei_decisions, the spec's own
choice where its source is silent; a log entry is `notes/assumptions/<n>.md`, the model's. A next state written as a record
update of `s` is its own frame: every field not named is unchanged. -/

open Sys2Proof Sys2Proof.Machine
open Sys2Proof.Config (Params Agent Turn Access)

/-! ## Command register -/

/-- R100. PIO as the live busy state is decision D11 (R30), the condition that closes the stale window decision D28
(R27). -/
def Obligations.ReadCommand1ReturnsFieldsAndBusy : Prop :=
  ∀ (s : State) (h : Handle), s.cfg = Config.defaults → s.mayAccess h = true →
    ∃ v sc ix, exec (.rdCommand1 h) s = .next { s with
        ctrl := s.ctrl.set h { s.ctrl.get h with
          stale := (s.ctrl.get h).stale && decide (s.now - (s.ctrl.get h).tTrig < 1) }
        rdata := v, script := sc, drawIx := ix } ∧
      v.getLsbD 31 = (s.ctrl.get h).busy ∧
      ∀ k, k < 31 → (k < 6 ∨ 10 < k) → v.getLsbD k = (s.ctrl.get h).command1.getLsbD k

/-- R101 with PIO = 0 on an idle controller (the write time is decision D29), and R102: any write on a busy one faults and
has no other effect (decision D13). -/
def Obligations.WriteCommand1StoresWhenIdleAndFaultsWhenBusy : Prop :=
  ∀ (s : State) (h : Handle) (d : Word), s.mayAccess h = true →
    ((s.ctrl.get h).busy = true →
      ∃ t, exec (.wrCommand1 h d) s = .next t ∧ Faulted (.writeWhileBusy h .command1) s t) ∧
    (s.cfg = Config.defaults → (s.ctrl.get h).busy = false → d.getLsbD 31 = false →
      exec (.wrCommand1 h d) s = .next { s with
        ctrl := s.ctrl.set h { s.ctrl.get h with command1 := d &&& 0x7FFFF83F, tLastw := some s.now } })

/-- R101, R140, R142, R33: the start of a transfer. Decisions D11, D28, D29, D45, D46. A start with LSBIT_FE = 1 is among
them: log entry 30, where the table of R7 reads otherwise. -/
def Obligations.TriggerWriteStartsTransfer : Prop :=
  ∀ (s : State) (h : Handle) (d : Word), s.cfg = Config.defaults → s.mayAccess h = true →
    (s.ctrl.get h).busy = false → (s.ctrl.get h).flushTx = false → (s.ctrl.get h).flushRx = false →
    (∀ t, (s.ctrl.get h).tLastw = some t → 2 ≤ s.now - t) →
    d.getLsbD 31 = true → d.extractLsb' 0 5 = 7 → d.getLsbD 5 = false → d.getLsbD 21 = true →
    (d.getLsbD 11 = true ∨ d.getLsbD 12 = true) →
    exec (.wrCommand1 h d) s = .next { s with
      ctrl := s.ctrl.set h { s.ctrl.get h with
        command1 := d &&& 0x7FFFF83F
        busy := true
        framesLeft := (s.ctrl.get h).blkSize.toNat + 1
        lat := { txEn := d.getLsbD 11, rxEn := d.getLsbD 12, lsbitFe := d.getLsbD 16 }
        stale := true
        tTrig := s.now
        tLastw := some s.now } }

/-- R140, R141, R215, R243: the checks of a trigger write, in order, each after the fields are stored. Decisions D19,
D29, D45; the write time kept on a failed check is log entry 13; that nothing else is checked, LSBIT_FE in particular, is log
entry 30. -/
def Obligations.TriggerChecksApplyInOrder : Prop :=
  ∀ (s : State) (h : Handle) (d : Word), s.cfg = Config.defaults → s.refusal = none → s.mayAccess h = true →
    (s.ctrl.get h).busy = false → d.getLsbD 31 = true →
    let stored : State := { s with
      ctrl := s.ctrl.set h { s.ctrl.get h with command1 := d &&& 0x7FFFF83F } }
    ∃ t, exec (.wrCommand1 h d) s = .next t ∧
      if ∃ w, (s.ctrl.get h).tLastw = some w ∧ s.now - w < 2 then Faulted (.hazardSettle h) stored t
      else if (s.ctrl.get h).flushTx = true ∨ (s.ctrl.get h).flushRx = true then Faulted (.triggerDuringFlush h) stored t
      else if d.extractLsb' 0 5 ≠ 7 then Refused (.unsupportedConfig h .bitLength) stored t
      else if d.getLsbD 5 = true then Refused (.unsupportedConfig h .packed) stored t
      else if d.getLsbD 21 = false then Refused (.unsupportedConfig h .hwChipSelect) stored t
      else if d.getLsbD 11 = false ∧ d.getLsbD 12 = false then Refused (.unsupportedConfig h .noDirection) stored t
      else (t.ctrl.get h).busy = true

/-! ## Transfer-status register -/

/-- R103: every bit is the draw but RDY, which is the draw too while the stale window is open, and the flag otherwise; the
read has no effect. The window is decision D28 (R27), the draw as a word of `script` log entry 2. -/
def Obligations.ReadTransStatusShowsReady : Prop :=
  ∀ (s : State) (h : Handle), s.cfg.rdy < 32 → s.mayAccess h = true →
    (∃ v sc ix, exec (.rdTransStatus h) s = .next { s with rdata := v, script := sc, drawIx := ix } ∧
      ((s.ctrl.get h).stale = false → v.getLsbD s.cfg.rdy = (s.ctrl.get h).rdy)) ∧
    ∀ w : Word, ∃ v, exec (.rdTransStatus h) { s with script := w :: s.script } = .next { s with rdata := v } ∧
      ∀ k, k < 32 → v.getLsbD k =
        if k = s.cfg.rdy ∧ (s.ctrl.get h).stale = false then (s.ctrl.get h).rdy else w.getLsbD k

/-- R104: write 1 to clear, and no other effect. Decisions D9, D29. -/
def Obligations.WriteTransStatusClearsReady : Prop :=
  ∀ (s : State) (h : Handle) (d : Word), s.mayAccess h = true →
    exec (.wrTransStatus h d) s = .next { s with
      ctrl := s.ctrl.set h { s.ctrl.get h with
        rdy := if d.getLsbD s.cfg.rdy = true then false else (s.ctrl.get h).rdy
        tLastw := some s.now } }

/-! ## FIFO-status register -/

/-- R105, R41: flags, flush bits, counts and levels; the fields of a FIFO under flush are not constrained. The counts and
levels are decision D34, the flush bits that read pending decision D10. -/
def Obligations.ReadFifoStatusShowsFlagsAndCounts : Prop :=
  ∀ (s : State) (h : Handle), s.cfg = Config.defaults → s.mayAccess h = true →
    (s.ctrl.get h).txq.length ≤ 64 → (s.ctrl.get h).rxq.length ≤ 64 →
    ∃ v sc ix, exec (.rdFifoStatus h) s = .next { s with rdata := v, script := sc, drawIx := ix } ∧
      v.getLsbD 8 = (s.ctrl.get h).err ∧ v.getLsbD 7 = (s.ctrl.get h).txOvf ∧ v.getLsbD 6 = (s.ctrl.get h).txUnf ∧
      v.getLsbD 5 = (s.ctrl.get h).rxOvf ∧ v.getLsbD 4 = (s.ctrl.get h).rxUnf ∧
      v.getLsbD 15 = (s.ctrl.get h).flushRx ∧ v.getLsbD 14 = (s.ctrl.get h).flushTx ∧
      ((s.ctrl.get h).flushTx = false →
        (v.extractLsb' 16 7).toNat = 64 - (s.ctrl.get h).txq.length ∧
        (v.getLsbD 3 = true ↔ (s.ctrl.get h).txq.length = 64) ∧ (v.getLsbD 2 = true ↔ (s.ctrl.get h).txq = [])) ∧
      ((s.ctrl.get h).flushRx = false →
        (v.extractLsb' 23 7).toNat = (s.ctrl.get h).rxq.length ∧
        (v.getLsbD 1 = true ↔ (s.ctrl.get h).rxq.length = 64) ∧ (v.getLsbD 0 = true ↔ (s.ctrl.get h).rxq = []))

/-- R106, R148: errors cleared and flushes started in one step; a flush bit while busy faults with no other effect.
Decisions D10, D13, D29. -/
def Obligations.WriteFifoStatusClearsAndFlushes : Prop :=
  ∀ (s : State) (h : Handle) (d : Word), s.cfg = Config.defaults → s.mayAccess h = true →
    ((d.getLsbD 14 = true ∨ d.getLsbD 15 = true) ∧ (s.ctrl.get h).busy = true →
      ∃ t, exec (.wrFifoStatus h d) s = .next t ∧ Faulted (.flushWhileBusy h) s t) ∧
    (d.getLsbD 14 = false ∧ d.getLsbD 15 = false ∨ (s.ctrl.get h).busy = false →
      exec (.wrFifoStatus h d) s = .next { s with
        ctrl := s.ctrl.set h { s.ctrl.get h with
          err := (s.ctrl.get h).err && !d.getLsbD 8
          txOvf := (s.ctrl.get h).txOvf && !d.getLsbD 7
          txUnf := (s.ctrl.get h).txUnf && !d.getLsbD 6
          rxOvf := (s.ctrl.get h).rxOvf && !d.getLsbD 5
          rxUnf := (s.ctrl.get h).rxUnf && !d.getLsbD 4
          flushTx := (s.ctrl.get h).flushTx || d.getLsbD 14
          flushRx := (s.ctrl.get h).flushRx || d.getLsbD 15
          tLastw := some s.now } })

/-! ## Block-size register -/

/-- R107. -/
def Obligations.ReadBlkSizeReturnsField : Prop :=
  ∀ (s : State) (h : Handle), s.cfg = Config.defaults → s.mayAccess h = true →
    ∃ v sc ix, exec (.rdBlkSize h) s = .next { s with rdata := v, script := sc, drawIx := ix } ∧
      v.extractLsb' 0 16 = (s.ctrl.get h).blkSize.extractLsb' 0 16

/-- R108: the upper bits are discarded; busy faults. Decisions D13, D29. -/
def Obligations.WriteBlkSizeStoresLowBits : Prop :=
  ∀ (s : State) (h : Handle) (d : Word), s.cfg = Config.defaults → s.mayAccess h = true →
    ((s.ctrl.get h).busy = true →
      ∃ t, exec (.wrBlkSize h d) s = .next t ∧ Faulted (.writeWhileBusy h .blkSize) s t) ∧
    ((s.ctrl.get h).busy = false →
      exec (.wrBlkSize h d) s = .next { s with
        ctrl := s.ctrl.set h { s.ctrl.get h with
          blkSize := (d.extractLsb' 0 16).setWidth 32, tLastw := some s.now } })

/-! ## FIFO ports -/

/-- R109, R153: one word pushed at the end, or dropped with the overflow flags (decision D15); an access under flush faults
with no other effect (decision D45). -/
def Obligations.WriteTxFifoPushesOrOverflows : Prop :=
  ∀ (s : State) (h : Handle) (d : Word), s.mayAccess h = true →
    ((s.ctrl.get h).flushTx = true →
      ∃ t, exec (.wrTxFifo h d) s = .next t ∧ Faulted (.fifoAccessDuringFlush h .tx) s t) ∧
    ((s.ctrl.get h).flushTx = false →
      exec (.wrTxFifo h d) s = .next { s with
        ctrl := s.ctrl.set h
          (if (s.ctrl.get h).txq.length < s.cfg.fifoDepth then
            { s.ctrl.get h with txq := (s.ctrl.get h).txq ++ [d], tLastw := some s.now }
          else { s.ctrl.get h with txOvf := true, err := true, tLastw := some s.now }) })

/-- R110, R154: the head popped, or the underflow flags (decision D15) and any value; an access under flush faults with no
other effect (decision D45). -/
def Obligations.ReadRxFifoPopsOrUnderflows : Prop :=
  ∀ (s : State) (h : Handle), s.mayAccess h = true →
    ((s.ctrl.get h).flushRx = true →
      ∃ t, exec (.rdRxFifo h) s = .next t ∧ Faulted (.fifoAccessDuringFlush h .rx) s t) ∧
    ((s.ctrl.get h).flushRx = false →
      (∀ w q, (s.ctrl.get h).rxq = w :: q →
        exec (.rdRxFifo h) s = .next { s with
          ctrl := s.ctrl.set h { s.ctrl.get h with rxq := q }, rdata := w }) ∧
      ((s.ctrl.get h).rxq = [] →
        (∃ v sc ix, exec (.rdRxFifo h) s = .next { s with
          ctrl := s.ctrl.set h { s.ctrl.get h with rxUnf := true, err := true }
          rdata := v, script := sc, drawIx := ix }) ∧
        ∀ v, ∃ t, exec (.rdRxFifo h) { s with script := v :: s.script } = .next t ∧ t.rdata = v))

/-- R62, R63, R87, R213: an access that spells no instruction faults the master that issues it, with no other effect
(decisions D5, D31, D35). -/
def Obligations.RejectedAccessFaultsItsMaster : Prop :=
  ∀ (s : State) (m : Nat) (a : Access) (v : Verdict) (ts : List Turn), s.refusal = none →
    s.agenda = .master m a :: ts → s.halted (.master m) = false → decodeAccess s.cfg a = .error v →
    ∃ t, step s = .next t ∧ Faulted (faultOf v) { s with agenda := ts, actor := .master m } t ∧
      t.halted (.master m) = true

/-- R220: while an engine runs a command, another agent's access of its controller is refused and does nothing else.
Decision D39; that this check comes first is log entry 8. -/
def Obligations.AccessOfOwnedControllerIsRefused : Prop :=
  ∀ (s : State) (h : Handle) (i : Instr), s.refusal = none → accessedCtrl i = some h →
    (s.eng.get h).busyCmd = true → s.actor ≠ .engine h →
    ∃ t, exec i s = .next t ∧ Refused (.ownershipViolation h) s t

/-! ## Time Base -/

/-- R222, and R226: every write of the counter is refused, and the mark is its only effect. Decision D33. -/
def Obligations.CounterReadsMicrosecondsAndRefusesWrites : Prop :=
  (∀ s : State, ∃ v : Word, exec .rdTmrCntr1us s = .next { s with rdata := v } ∧
    v.toNat = (s.tmr.cntr0.toNat + s.now) % 2 ^ 32) ∧
  ∀ (s : State) (d : Word), s.refusal = none →
    exec (.wrTmrCntr1us d) s = .next { s with refusal := some .timerCounterWrite }

/-- R221, R223, for both reference clocks. Decision D33; the field positions and the two values are defaults of log entry 3. -/
def Obligations.DividerReadsAndKeepsItsValue : Prop :=
  ∀ (s : State) (d : Word), s.cfg.timeBase = Config.defaults.timeBase → s.refusal = none →
    let configured : BitVec 16 := match s.cfg.fRef with | .mhz12 => 0x000B | .mhz38_4 => 0x04BF
    (∃ v sc ix, exec .rdTmrUsecCfg s = .next { s with rdata := v, script := sc, drawIx := ix } ∧
      v.extractLsb' 8 8 = s.tmr.usecCfg.dividend ∧ v.extractLsb' 0 8 = s.tmr.usecCfg.divisor) ∧
    (d.extractLsb' 0 16 = configured →
      exec (.wrTmrUsecCfg d) s = .next { s with
        tmr := { s.tmr with usecCfg := { dividend := d.extractLsb' 8 8, divisor := d.extractLsb' 0 8 } } }) ∧
    (d.extractLsb' 0 16 ≠ configured →
      exec (.wrTmrUsecCfg d) s = .next { s with refusal := some .timerReconfigured })

/-- R221, R224: five bits of storage. Decision D33; the bit order is a default of log entry 3. -/
def Obligations.FreezeBitsReadWhatWasWritten : Prop :=
  ∀ (s : State) (d : Word), s.cfg.timeBase = Config.defaults.timeBase →
    exec (.wrTmrCntrFreeze d) s = .next { s with
      tmr := { s.tmr with freeze := {
        cpu0 := d.getLsbD 0, cpu1 := d.getLsbD 1, cpu2 := d.getLsbD 2, cpu3 := d.getLsbD 3, cop := d.getLsbD 4 } } } ∧
    ∃ v sc ix, exec .rdTmrCntrFreeze s = .next { s with rdata := v, script := sc, drawIx := ix } ∧
      v.getLsbD 0 = s.tmr.freeze.cpu0 ∧ v.getLsbD 1 = s.tmr.freeze.cpu1 ∧ v.getLsbD 2 = s.tmr.freeze.cpu2 ∧
      v.getLsbD 3 = s.tmr.freeze.cpu3 ∧ v.getLsbD 4 = s.tmr.freeze.cop

/-! ## Command acceptance -/

/-- R170, R177, R178: INIT on an idle engine that has not completed INIT (decision D26), and FLUSH_FIFOS on an idle engine,
before INIT too (decision D40). -/
def Obligations.InitAndFlushFifosAreAccepted : Prop :=
  ∀ (s : State) (h : Handle), (s.eng.get h).busyCmd = false →
    ((s.eng.get h).initialized = false →
      exec (.init h) s = .next { s with
        eng := s.eng.set h { s.eng.get h with busyCmd := true, op := .init, pc := 1 } }) ∧
    exec (.flushFifos h) s = .next { s with
      eng := s.eng.set h { s.eng.get h with busyCmd := true, op := .flushFifos, pc := 1 } }

/-- R170, R179, R180, R211: SEND of four bytes is accepted (decisions D7, D26); another length is Invalid Argument, with the
engine and the controller unchanged (decision D25; that the engine's last result stays is log entry 12). -/
def Obligations.SendIsAcceptedWithFourBytesOnly : Prop :=
  ∀ (s : State) (h : Handle), (s.eng.get h).busyCmd = false → (s.eng.get h).initialized = true →
    (∀ b0 b1 b2 b3 : Byte,
      exec (.send h 4 [b0, b1, b2, b3]) s = .next { s with
        eng := s.eng.set h { s.eng.get h with
          busyCmd := true, op := .send, pc := 1, txbuf := ⟨b0, b1, b2, b3⟩ } }) ∧
    ∀ (len : BitVec 16) (bytes : List Byte), (len ≠ 4 ∨ bytes.length ≠ len.toNat) →
      exec (.send h len bytes) s = .next { s with results := s.results ++ [(h, .invalidArgument)] }

/-- R170, R181, R182: RECEIVE of 1 to FIFO_DEPTH bytes is accepted, of another length refused. Decision D24. -/
def Obligations.ReceiveIsAcceptedWithinTheFifo : Prop :=
  ∀ (s : State) (h : Handle) (len : BitVec 16), s.refusal = none → (s.eng.get h).busyCmd = false →
    (s.eng.get h).initialized = true →
    exec (.receive h len) s = .next
      (if 1 ≤ len.toNat ∧ len.toNat ≤ s.cfg.fifoDepth then
        { s with eng := s.eng.set h { s.eng.get h with
            busyCmd := true, op := .receive, pc := 1, len := len.toNat } }
      else { s with refusal := some (.receiveLength len.toNat) })

/-- R170: the refusals of a caller that breaks the contract, in the order written there. Decision D26. -/
def Obligations.ContractBreachesAreRefused : Prop :=
  ∀ (s : State) (h : Handle) (len : BitVec 16) (bytes : List Byte), s.refusal = none →
    ((s.eng.get h).busyCmd = true →
      ∀ i ∈ [Instr.init h, .flushFifos h, .send h len bytes, .receive h len],
        exec i s = .next { s with refusal := some (.concurrentCommand h) }) ∧
    ((s.eng.get h).busyCmd = false → (s.eng.get h).initialized = true →
      exec (.init h) s = .next { s with refusal := some (.initTwice h) }) ∧
    ((s.eng.get h).busyCmd = false → (s.eng.get h).initialized = false →
      ∀ i ∈ [Instr.send h len bytes, .receive h len],
        exec i s = .next { s with refusal := some (.notInitialized h) })

/-- R88, R170: a malformed word handed to an idle engine faults that engine, with no other effect on the block.
Decision D7; that the fault is that engine's is log entry 11. -/
def Obligations.MalformedCommandFaultsItsEngine : Prop :=
  ∀ (s : State) (c : Word) (bytes : List Byte) (ts : List Turn), s.refusal = none → s.agenda = .host c bytes :: ts →
    cmdWellFormed c = false →
    (s.eng.get (Handle.ofBits (cmdH c))).busyCmd = false →
    ∃ t, step s = .next t ∧ t = { s with faults := t.faults, agenda := ts, actor := .host } ∧
      ∀ r, r ∈ t.faults ↔ r ∈ s.faults ∨ r = ⟨.engine (Handle.ofBits (cmdH c)), .illegalCommand c⟩

/-! ## Controller steps -/

/-- R143, R144, R145, R151: one frame, for every controller and whatever the outside supplies. Decisions D14 to D18,
D20; `lsbFirst` is log entry 18. -/
def Obligations.FrameShiftsOneByte : Prop :=
  ∀ (p : Params) (h : Handle) (i : FrameInputs) (c : Ctrl),
    let underrun := c.lat.txEn && c.txq.isEmpty
    let overrun := c.lat.rxEn && decide (p.fifoDepth ≤ c.rxq.length)
    c.frame p h i = { c with
      txq := if c.lat.txEn = true then c.txq.tail else c.txq
      rxq := if c.lat.rxEn = true ∧ c.rxq.length < p.fifoDepth then c.rxq ++ [i.upper ++ i.miso] else c.rxq
      txUnf := c.txUnf || underrun
      rxOvf := c.rxOvf || overrun
      err := c.err || underrun || overrun || i.genericError
      framesLeft := c.framesLeft - 1
      wire := c.wire ++ [{
        ctrl := h
        cs := csLevels p c.command1 i.csFree
        mosi := if c.lat.txEn = true then (match c.txq with | w :: _ => w.extractLsb' 0 8 | [] => i.mosiFree) else i.mosiFree
        miso := i.miso
        lsbFirst := c.lat.lsbitFe }] }

/-- R10, R143: the frame turn of a controller takes one frame when it is enabled, and changes nothing else. The turn
and the draws are log entries 1 and 2. -/
def Obligations.FrameTurnTakesOneFrameWhenEnabled : Prop :=
  ∀ (s : State) (h : Handle) (ts : List Turn), s.refusal = none → s.agenda = .frame h :: ts →
    ∃ i sc ix, step s = .next
      (if (s.ctrl.get h).busy = true ∧ 0 < (s.ctrl.get h).framesLeft then
        { s with
          ctrl := s.ctrl.set h ((s.ctrl.get h).frame s.cfg h i)
          agenda := ts, actor := .controller h, script := sc, drawIx := ix }
      else { s with agenda := ts, actor := .controller h })

/-- R144: a transfer shifts its whole block whatever is in the FIFOs and whatever errors occur. Decision D14. -/
def Obligations.TransferRunsToTheFullBlock : Prop :=
  ∀ (p : Params) (h : Handle) (c : Ctrl) (is : List FrameInputs), c.busy = true → is.length = c.framesLeft →
    let d := is.foldl (fun c i => c.frame p h i) c
    d.framesLeft = 0 ∧ d.busy = true ∧ d.wire.length = c.wire.length + c.framesLeft ∧
      (d.wire.drop c.wire.length).map (·.miso) = is.map (·.miso)

/-- R144, C1: a block of four frames with one TX FIFO entry sends its low byte, then underruns and sets ERR. Decision
D14. -/
def Obligations.OneWordForFourFramesUnderruns : Prop :=
  ∀ (p : Params) (h : Handle) (c : Ctrl) (w : Word) (i1 i2 i3 i4 : FrameInputs), c.lat.txEn = true → c.txq = [w] →
    c.wire = [] →
    let d := [i1, i2, i3, i4].foldl (fun c i => c.frame p h i) c
    d.wire.map (·.mosi) = [w.extractLsb' 0 8, i2.mosiFree, i3.mosiFree, i4.mosiFree] ∧ d.txq = [] ∧
      d.txUnf = true ∧ d.err = true

/-- R143, R189: `L` frames into an empty RX FIFO that holds them fill it with the peripheral's bytes in order, and set
no flag when no generic error occurs. Decisions D16, D17. -/
def Obligations.ReceivedBytesFillTheRxFifo : Prop :=
  ∀ (p : Params) (h : Handle) (c : Ctrl) (is : List FrameInputs), c.lat.rxEn = true → c.lat.txEn = false →
    c.rxq = [] → is.length ≤ p.fifoDepth → (∀ i ∈ is, i.genericError = false) →
    let d := is.foldl (fun c i => c.frame p h i) c
    d.rxq.map (fun w => w.extractLsb' 0 8) = is.map (·.miso) ∧ d.err = c.err ∧ d.rxOvf = c.rxOvf

/-- R147: completion clears busy and sets RDY in one step, and changes nothing else. Decision D11; the turn is log
entry 1. -/
def Obligations.CompletionSetsReadyAndClearsBusy : Prop :=
  ∀ (s : State) (h : Handle) (ts : List Turn), s.refusal = none → s.agenda = .complete h :: ts →
    step s = .next
      (if (s.ctrl.get h).busy = true ∧ (s.ctrl.get h).framesLeft = 0 then
        { s with ctrl := s.ctrl.set h { s.ctrl.get h with busy := false, rdy := true }
                 agenda := ts, actor := .controller h }
      else { s with agenda := ts, actor := .controller h })

/-- R149: each flush completes in its own step, empties its FIFO and changes nothing else. Decision D44; the turn is
log entry 1. -/
def Obligations.FlushCompletionEmptiesItsFifo : Prop :=
  ∀ (s : State) (h : Handle) (ts : List Turn), s.refusal = none →
    (s.agenda = .flushTx h :: ts →
      step s = .next
        (if (s.ctrl.get h).flushTx = true then
          { s with ctrl := s.ctrl.set h { s.ctrl.get h with txq := [], flushTx := false }
                   agenda := ts, actor := .controller h }
        else { s with agenda := ts, actor := .controller h })) ∧
    (s.agenda = .flushRx h :: ts →
      step s = .next
        (if (s.ctrl.get h).flushRx = true then
          { s with ctrl := s.ctrl.set h { s.ctrl.get h with rxq := [], flushRx := false }
                   agenda := ts, actor := .controller h }
        else { s with agenda := ts, actor := .controller h }))

/-- R155: the level of each of the four lines. Decision D20. -/
def Obligations.ChipSelectLevelsFollowCommand1 : Prop :=
  ∀ (w : Word) (free : Bool) (n : Nat), n < 4 →
    (csLevels Config.defaults w free).getLsbD n =
      if n = (w.extractLsb' 26 2).toNat then (if w.getLsbD 21 = true then w.getLsbD 20 else free)
      else w.getLsbD (22 + n)

/-! ## Engine -/

/-- R175, R248: a read-modify-write of an idle controller's `COMMAND1` starts no transfer unless it sets PIO, and
stores the named fields and no other change: on words, and in the engine's two steps. Decisions D12, D28, D29; the turns are
log entry 1. -/
def Obligations.RmwChangesOnlyTheNamedFields : Prop :=
  (∀ (stored draw clr set : Word), stored &&& ~~~(0x7FFFF83F : Word) = 0 → set.getLsbD 31 = false →
    let d := rmwWord (command1Word Config.defaults stored false draw) clr set
    d.getLsbD 31 = false ∧
      storeCommand1 Config.defaults d = ((stored &&& ~~~clr) ||| (set &&& 0x7FFFF83F))) ∧
  ∀ (s : State) (h : Handle) (clr set : Word), s.cfg = Config.defaults → s.refusal = none →
    s.engineEnabled h = true → (s.ctrl.get h).busy = false →
    (s.ctrl.get h).command1 &&& ~~~(0x7FFFF83F : Word) = 0 → set.getLsbD 31 = false →
    (s.eng.get h).micro? s.cfg = some .readCommand1 →
    Engine.micro? s.cfg { s.eng.get h with pc := (s.eng.get h).pc + 1 } = some (.writeCommand1 clr set) →
    ∃ t, runTurns [.engine h, .engine h] s = .next t ∧
      t.ctrl = s.ctrl.set h { s.ctrl.get h with
        command1 := ((s.ctrl.get h).command1 &&& ~~~clr) ||| (set &&& 0x7FFFF83F)
        stale := (s.ctrl.get h).stale && decide (s.now - (s.ctrl.get h).tTrig < 1)
        tLastw := some s.now } ∧
      (t.eng.get h).pc = (s.eng.get h).pc + 2 ∧ (t.eng.get h).busyCmd = true ∧
      t.faults = s.faults ∧ t.refusal = none

/-- R174: a poll step is `exec` of the read of its register by the engine, whose value it tests; it moves on exactly when the
condition holds, and else the engine is at the same step again. Nothing of a controller changes. -/
def Obligations.PollRepeatsUntilItsConditionHolds : Prop :=
  ∀ (s : State) (h : Handle) (mask eq : Word) (ts : List Turn) (i : Instr), s.refusal = none →
    s.agenda = .engine h :: ts → s.engineEnabled h = true →
    ((s.eng.get h).micro? s.cfg = some (.pollTransStatus mask eq) ∧ i = .rdTransStatus h ∨
      (s.eng.get h).micro? s.cfg = some (.pollFifoStatus mask eq) ∧ i = .rdFifoStatus h) →
    ∃ u, exec i { s with agenda := ts, actor := .engine h } = .next u ∧ u.ctrl = s.ctrl ∧ u.eng = s.eng ∧
      step s = .next { u with eng := s.eng.set h { s.eng.get h with
        scratch := u.rdata
        pc := if u.rdata &&& mask = eq then (s.eng.get h).pc + 1 else (s.eng.get h).pc } }

/-- R174, R180 step 18, R182 step 17: the ready-wait does not end while RDY is 0 and the stale window is closed (decision
D28 is the window). -/
def Obligations.ReadyWaitEndsOnlyOnReady : Prop :=
  ∀ (s t : State) (h : Handle) (ts : List Turn), s.agenda = .engine h :: ts → s.cfg.rdy < 32 →
    s.engineEnabled h = true →
    (s.eng.get h).micro? s.cfg = some (.pollTransStatus (mRdy s.cfg) (mRdy s.cfg)) →
    (s.ctrl.get h).stale = false → step s = .next t →
    ((t.eng.get h).pc = (s.eng.get h).pc + 1 ↔ (s.ctrl.get h).rdy = true)

/-- R185: no step but the engine's own changes a running command, whoever takes it; and a poll whose condition fails leaves
the engine running, at the same step. -/
def Obligations.RunningCommandIsNotCancelled : Prop :=
  ∀ (s t : State) (h : Handle), step s = .next t → (s.eng.get h).busyCmd = true →
    (s.turn ≠ .engine h → t.eng.get h = s.eng.get h) ∧
    (s.turn = .engine h → ∀ mask eq,
      ((s.eng.get h).micro? s.cfg = some (.pollTransStatus mask eq) ∨
        (s.eng.get h).micro? s.cfg = some (.pollFifoStatus mask eq)) →
      t.rdata &&& mask ≠ eq → (t.eng.get h).busyCmd = true ∧ (t.eng.get h).pc = (s.eng.get h).pc)

/-- R176, R225: an engine leaves `delay_us n` only when at least `n` microseconds have passed since its first counter
read. Decision D27. -/
def Obligations.DelayLastsAtLeastItsMicroseconds : Prop :=
  ∀ (s t : State) (h : Handle) (n t0 : Nat) (ts : List Turn), s.agenda = .engine h :: ts → s.engineEnabled h = true →
    (s.eng.get h).micro? s.cfg = some (.delayWait n) → (s.eng.get h).t0 = counterWord s.tmr t0 → t0 ≤ s.now →
    step s = .next t → (t.eng.get h).pc = (s.eng.get h).pc + 1 → n ≤ s.now - t0

/-- R182, R189: the drain takes `L` engine steps, reads the port once in each, and keeps the low bytes in order.
Decision D23; the turns are log entry 1. -/
def Obligations.DrainReturnsTheLowBytesInOrder : Prop :=
  ∀ (s : State) (h : Handle), s.refusal = none → s.engineEnabled h = true → (s.eng.get h).op = .receive →
    (s.eng.get h).pc = 22 → (s.eng.get h).k = 0 → (s.eng.get h).out = [] → 1 ≤ (s.eng.get h).len →
    (s.ctrl.get h).flushRx = false → (s.ctrl.get h).rxq.length = (s.eng.get h).len →
    ∃ t, runTurns (List.replicate ((s.eng.get h).len + 1) (.engine h)) s = .next t ∧
      t.results = s.results ++ [(h, .okData ((s.ctrl.get h).rxq.map (fun w => w.extractLsb' 0 8)))] ∧
      (t.eng.get h).busyCmd = false ∧ t.ctrl = s.ctrl.set h { s.ctrl.get h with rxq := [] }

/-- R177: INIT, from every state with an idle, ready controller whose engine has not completed INIT, in a run in which
both flushes complete after they are started: the fields of its two read-modify-writes, both FIFOs empty, result Ok.
Decisions D12, D36; the turns are log entry 1. -/
def Obligations.InitConfiguresTheController : Prop :=
  ∀ (s : State) (h : Handle), s.cfg = Config.defaults → s.refusal = none → s.halted (.engine h) = false →
    (s.eng.get h).busyCmd = false → (s.eng.get h).initialized = false →
    (s.ctrl.get h).busy = false → (s.ctrl.get h).rdy = true → (s.ctrl.get h).stale = false →
    (s.ctrl.get h).command1 &&& ~~~(0x7FFFF83F : Word) = 0 →
    ∃ t, runTurns ([.host (cmdWord 0 h 0) [], .engine h, .engine h, .engine h, .engine h, .flushTx h, .flushRx h,
        .engine h, .engine h, .engine h, .engine h]) s = .next t ∧
      t.results = s.results ++ [(h, .ok)] ∧
      (t.eng.get h).initialized = true ∧ (t.eng.get h).busyCmd = false ∧
      t.faults = s.faults ∧ t.refusal = none ∧
      t.ctrl = s.ctrl.set h { s.ctrl.get h with
        command1 := ((s.ctrl.get h).command1 &&& ~~~(0x0C31003F : Word)) ||| 0x00200007
        txq := [], rxq := [], flushTx := false, flushRx := false, tLastw := some s.now }

/-- R178: FLUSH_FIFOS empties both FIFOs and leaves every other field of the controller but `t_lastw`, result Ok.
Decision D37; the turns are log entry 1. -/
def Obligations.FlushFifosEmptiesBothFifos : Prop :=
  ∀ (s : State) (h : Handle), s.cfg = Config.defaults → s.refusal = none → s.halted (.engine h) = false →
    (s.eng.get h).busyCmd = false →
    (s.ctrl.get h).busy = false → (s.ctrl.get h).rdy = true → (s.ctrl.get h).stale = false →
    ∃ t, runTurns ([.host (cmdWord 1 h 0) [], .engine h, .engine h, .flushRx h, .flushTx h, .engine h, .engine h]) s
        = .next t ∧
      t.results = s.results ++ [(h, .ok)] ∧ (t.eng.get h).busyCmd = false ∧ t.faults = s.faults ∧ t.refusal = none ∧
      t.ctrl = s.ctrl.set h { s.ctrl.get h with
        txq := [], rxq := [], flushTx := false, flushRx := false, tLastw := some s.now }

/-- R180, R188, R64: SEND from its acceptance through its trigger, on an idle, ready controller that INIT has put under
software chip select, in a run in which both flushes complete after they are started and two microseconds pass at the
settle delay: one word, little-endian, in the TX FIFO, and a block of four frames started with the transmitter on. Decisions
D11, D12, D27 to D29, D46; the turns are log entry 1. -/
def Obligations.SendTriggersABlockOfFour : Prop :=
  ∀ (s : State) (h : Handle) (b0 b1 b2 b3 : Byte),
    let c := s.ctrl.get h
    let e := s.eng.get h
    s.cfg = Config.defaults → s.refusal = none →
    s.halted (.engine h) = false → e.busyCmd = false → e.initialized = true →
    c.busy = false → c.rdy = true → c.stale = false →
    c.command1 &&& ~~~(0x7FFFF83F : Word) = 0 → c.command1.getLsbD 21 = true →
    ∃ t, runTurns ([Turn.host (cmdWord 2 h 4) [b0, b1, b2, b3], .engine h, .engine h, .flushTx h, .flushRx h] ++
        engineTurns h 9 ++ [Turn.time, .time] ++ engineTurns h 3) s = .next t ∧
      (t.eng.get h).pc = 15 ∧ (t.eng.get h).busyCmd = true ∧ (t.eng.get h).op = .send ∧
      t.now = s.now + 2 ∧ t.results = s.results ∧ t.faults = s.faults ∧ t.refusal = none ∧
      t.ctrl = s.ctrl.set h { c with
        command1 := (c.command1 &&& ~~~(0x0000003F : Word)) ||| 0x00000807
        busy := true, framesLeft := 4, rdy := false, blkSize := 3
        lat := { txEn := true, rxEn := c.command1.getLsbD 12, lsbitFe := c.command1.getLsbD 16 }
        txq := [pack ⟨b0, b1, b2, b3⟩], rxq := [], flushTx := false, flushRx := false
        stale := true, tTrig := s.now + 2, tLastw := some (s.now + 2) }

/-- R180 steps 15 to 22, R183, R184: a SEND whose block has been shifted, from right after its trigger, in a run in which
one microsecond passes at the trigger delay: the transmitter is off, and ERR decides the result; on failure all five error
flags are cleared. Decisions D12, D27 to D29; the turns are log entry 1. On this controller ERR is set
(`NoSendSucceeds`). -/
def Obligations.SendEndsByItsErrorCheck : Prop :=
  ∀ (s : State) (h : Handle),
    let c := s.ctrl.get h
    let e := s.eng.get h
    s.cfg = Config.defaults → s.refusal = none → s.engineEnabled h = true →
    e.op = .send → e.pc = 15 → c.busy = false → c.rdy = true →
    c.tTrig ≤ s.now → c.command1 &&& ~~~(0x7FFFF83F : Word) = 0 →
    let ended : Ctrl := { c with
      command1 := c.command1 &&& ~~~(0x00000800 : Word), stale := false, tLastw := some (s.now + 1) }
    (c.err = false →
      ∃ t, runTurns ([Turn.engine h, .time] ++ engineTurns h 6) s = .next t ∧
        t.results = s.results ++ [(h, .ok)] ∧ (t.eng.get h).busyCmd = false ∧
        t.faults = s.faults ∧ t.refusal = none ∧ t.ctrl = s.ctrl.set h ended) ∧
    (c.err = true →
      ∃ t, runTurns ([Turn.engine h, .time] ++ engineTurns h 7) s = .next t ∧
        t.results = s.results ++ [(h, .transferError)] ∧ (t.eng.get h).busyCmd = false ∧
        t.faults = s.faults ∧ t.refusal = none ∧
        t.ctrl = s.ctrl.set h { ended with
          err := false, txOvf := false, txUnf := false, rxOvf := false, rxUnf := false })

/-- R181, R182 steps 1 to 13: RECEIVE from its acceptance through its trigger, on an idle, ready controller that INIT has put
under software chip select, in a run in which both flushes complete after they are started and two microseconds pass at the
settle delay: empty FIFOs, and a block of as many frames as its length started with the receiver on; TX_EN is as it was.
Decisions D11, D12, D24, D27 to D29, D46; the turns are log entry 1. -/
def Obligations.ReceiveTriggersABlockOfItsLength : Prop :=
  ∀ (s : State) (h : Handle) (len : BitVec 16),
    let c := s.ctrl.get h
    let e := s.eng.get h
    s.cfg = Config.defaults → s.refusal = none →
    1 ≤ len.toNat → len.toNat ≤ 64 →
    s.halted (.engine h) = false → e.busyCmd = false → e.initialized = true →
    c.busy = false → c.rdy = true → c.stale = false →
    c.command1 &&& ~~~(0x7FFFF83F : Word) = 0 → c.command1.getLsbD 21 = true →
    ∃ t, runTurns ([Turn.host (cmdWord 3 h len) [], .engine h, .engine h, .flushTx h, .flushRx h] ++
        engineTurns h 8 ++ [Turn.time, .time] ++ engineTurns h 3) s = .next t ∧
      (t.eng.get h).pc = 14 ∧ (t.eng.get h).busyCmd = true ∧ (t.eng.get h).op = .receive ∧
      (t.eng.get h).len = len.toNat ∧
      t.now = s.now + 2 ∧ t.results = s.results ∧ t.faults = s.faults ∧ t.refusal = none ∧
      t.ctrl = s.ctrl.set h { c with
        command1 := (c.command1 &&& ~~~(0x0000003F : Word)) ||| 0x00001007
        busy := true, framesLeft := len.toNat, rdy := false, blkSize := BitVec.ofNat 32 (len.toNat - 1)
        lat := { txEn := c.command1.getLsbD 11, rxEn := true, lsbitFe := c.command1.getLsbD 16 }
        txq := [], rxq := [], flushTx := false, flushRx := false
        stale := true, tTrig := s.now + 2, tLastw := some (s.now + 2) }

/-- R182 steps 14 to 23, R183, R184, R189: a RECEIVE whose block has been shifted, from right after its trigger, in a run in
which one microsecond passes at the trigger delay: the receiver is off, and ERR decides: the low bytes of the drained FIFO,
or Transfer Error with all five error flags cleared and the FIFO not drained (decision D23). Decisions D12, D27 to D29; the
turns are log entry 1. -/
def Obligations.ReceiveEndsByItsErrorCheck : Prop :=
  ∀ (s : State) (h : Handle),
    let c := s.ctrl.get h
    let e := s.eng.get h
    s.cfg = Config.defaults → s.refusal = none → s.engineEnabled h = true →
    e.op = .receive → e.pc = 14 → c.busy = false → c.rdy = true →
    c.tTrig ≤ s.now → c.command1 &&& ~~~(0x7FFFF83F : Word) = 0 →
    let ended : Ctrl := { c with
      command1 := c.command1 &&& ~~~(0x00001000 : Word), stale := false, tLastw := some (s.now + 1) }
    (c.err = false → c.flushRx = false → 1 ≤ e.len → c.rxq.length = e.len →
      ∃ t, runTurns ([Turn.engine h, .time] ++ engineTurns h (6 + e.len + 1)) s = .next t ∧
        t.results = s.results ++ [(h, .okData (c.rxq.map (fun w => w.extractLsb' 0 8)))] ∧
        (t.eng.get h).busyCmd = false ∧ t.faults = s.faults ∧ t.refusal = none ∧
        t.ctrl = s.ctrl.set h { ended with rxq := [] }) ∧
    (c.err = true →
      ∃ t, runTurns ([Turn.engine h, .time] ++ engineTurns h 7) s = .next t ∧
        t.results = s.results ++ [(h, .transferError)] ∧ (t.eng.get h).busyCmd = false ∧
        t.faults = s.faults ∧ t.refusal = none ∧
        t.ctrl = s.ctrl.set h { ended with
          err := false, txOvf := false, txUnf := false, rxOvf := false, rxUnf := false })

/-- R144, R180, R183, C1: no SEND succeeds on this controller. `SendFails` holds of every engine that runs no SEND or has not
yet started its flush, every step of any agent keeps it, and a step that ends a SEND returns Transfer Error. Decision D14. -/
def Obligations.NoSendSucceeds : Prop :=
  (∀ (s : State) (h : Handle), ((s.eng.get h).busyCmd = false ∨ (s.eng.get h).op ≠ .send ∨ (s.eng.get h).pc ≤ 2) →
    SendFails h s) ∧
  ∀ (s t : State) (h : Handle), s.cfg = Config.defaults → SendFails h s → step s = .next t →
    SendFails h t ∧
    ((s.eng.get h).busyCmd = true → (s.eng.get h).op = .send → (t.eng.get h).busyCmd = false →
      (t.eng.get h).result = some .transferError ∧ t.results = s.results ++ [(h, .transferError)])

/-- R64, R188: SEND's word is little-endian, `unpack` is the inverse of `pack`, and RECEIVE's byte is the low byte. -/
def Obligations.PackingIsLittleEndianAndInvertible : Prop :=
  (∀ b : TxBuf, pack b =
    b.b0.setWidth 32 ||| b.b1.setWidth 32 <<< 8 ||| b.b2.setWidth 32 <<< 16 ||| b.b3.setWidth 32 <<< 24) ∧
  (∀ w : Word, unpack w =
    ⟨w.extractLsb' 0 8, w.extractLsb' 8 8, w.extractLsb' 16 8, w.extractLsb' 24 8⟩ ∧ lowByte w = w.extractLsb' 0 8) ∧
  (∀ b : TxBuf, unpack (pack b) = b) ∧ ∀ w : Word, pack (unpack w) = w

/-! ## Encoding -/

/-- R86 to R88: the decoder reads back what the encoder writes, for every instruction and every bus layout that fits.
Decisions D6, D7. -/
def Obligations.DecodeInvertsEncode : Prop :=
  ∀ (p : Params) (i : Instr), p.bus.wf = true → decode p (encode p i) = .ok i

/-- R86 to R88, R111 to R113, R226: at the default offsets the decoder accepts exactly the words that match a row of the
opcode table, and names the verdict of every other. Decisions D6, D7, D35. That Misaligned comes first is log entry 10, the
descriptor as the fault information of an illegal BLK log entry 20. -/
def Obligations.DecoderAcceptsExactlyTheTable : Prop :=
  (∀ (d : BitVec 16) (data : Word),
    let decoded := decodeAcc Config.defaults d data
    let blk := (d.extractLsb' 12 3).toNat
    let h := Handle.ofBits (d.extractLsb' 12 2)
    let off := d.extractLsb' 0 12
    let base := if blk < 4 then Config.defaults.bus.spiBase.get h else 0x60005010
    let place := AccessPoint.addr (base + off.setWidth 32)
    ((∃ i, decoded = .ok i) ↔ accWellFormed d = true) ∧
    (off.toNat % 4 ≠ 0 → decoded = .error (.misaligned (if blk ≤ 4 then place else .desc d))) ∧
    (off.toNat % 4 = 0 →
      (4 < blk → decoded = .error (.unmappedAccess (.desc d))) ∧
      (blk = 4 → off ∉ [0x000, 0x004, 0x03C] → decoded = .error (.unmappedAccess place)) ∧
      (blk < 4 → off = 0x108 → d.getLsbD 15 = false → decoded = .error (.wrongDirection h .tx)) ∧
      (blk < 4 → off = 0x188 → d.getLsbD 15 = true → decoded = .error (.wrongDirection h .rx)) ∧
      (blk < 4 → off ∉ [0x000, 0x010, 0x014, 0x024, 0x108, 0x188] → decoded = .error (.unmappedAccess place)))) ∧
  ∀ (c : Word) (bytes : List Byte),
    ((∃ i, decodeCmd c bytes = .ok i) ↔ cmdWellFormed c = true) ∧
    (cmdWellFormed c = false → decodeCmd c bytes = .error (.illegalCommand c))

/-- R81, R83, R86, R88: words written out from the encoding. The layout of a table word is log entry 17. -/
def Obligations.SampleWordsDecode : Prop :=
  decodeTableWord 16 0b1011000000100100 = some (.wrBlkSize .spi4 0) ∧
  decodeTableWord 16 0b0001000110001000 = some (.rdRxFifo .spi2) ∧
  decodeTableWord 16 0b0100000000000000 = some .rdTmrCntr1us ∧
  decodeTableWord 32 0b00000000000000000000000000000100 = some (.init .spi2) ∧
  decodeTableWord 32 0b00000000000001000000000000001110 = some (.send .spi4 4 [0, 0, 0, 0]) ∧
  decodeTableWord 32 0b00000000000000100000000000000011 = some (.receive .spi1 2)

/-- R61, R62, R63, R82, R215: a physical access decodes like the descriptor of its block and offset; another width, an
odd address and an address outside every block are rejected in that order. Decisions D2, D5; the order of the first
two is log entry 9. -/
def Obligations.PhysicalAccessDecodesByItsBlock : Prop :=
  ∀ (p : Params) (a : Word) (width : Nat) (write : Option Word), p.bus.wf = true →
    (width ≠ 32 → decodePhys p a width write = .error (.badWidth a)) ∧
    (a.toNat % 4 ≠ 0 → decodePhys p a 32 write = .error (.misaligned (.addr a))) ∧
    (a.toNat % 4 = 0 →
      (∀ h, (p.bus.spiBase.get h).toNat ≤ a.toNat → a.toNat < (p.bus.spiBase.get h).toNat + p.bus.spiBlockBytes →
        decodePhys p a 32 write =
          decodeController p h (BitVec.ofNat 12 (a.toNat - (p.bus.spiBase.get h).toNat)) write (.addr a)) ∧
      (p.bus.tmrBase.toNat ≤ a.toNat → a.toNat < p.bus.tmrBase.toNat + 0x40 →
        decodePhys p a 32 write =
          decodeTimeBase p (BitVec.ofNat 12 (a.toNat - p.bus.tmrBase.toNat)) write (.addr a)) ∧
      ((∀ h, ¬ ((p.bus.spiBase.get h).toNat ≤ a.toNat ∧
          a.toNat < (p.bus.spiBase.get h).toNat + p.bus.spiBlockBytes)) →
        ¬ (p.bus.tmrBase.toNat ≤ a.toNat ∧ a.toNat < p.bus.tmrBase.toNat + 0x40) →
        decodePhys p a 32 write = .error (.unmappedAccess (.addr a))))

/-! ## Steps of the whole machine -/

/-- R10, R80, R89: a step whose turn issues an access or a command that decodes to an instruction is `exec` of it; the
step adds only that the turn is taken off and the agent is the one that acts. The turn and the acting agent are log
entries 1, 15 and 16. -/
def Obligations.StepRunsTheIssuedInstruction : Prop :=
  ∀ (s : State) (ts : List Turn) (i : Instr), s.refusal = none →
    (∀ m a, s.agenda = .master m a :: ts → decodeAccess s.cfg a = .ok i → s.halted (.master m) = false →
      step s = exec i { s with agenda := ts, actor := .master m }) ∧
    (∀ c bytes, s.agenda = .host c bytes :: ts → decodeCmd c bytes = .ok i →
      step s = exec i { s with agenda := ts, actor := .host })

/-- R213: an engine or a master that raised a fault takes no further step. Decision D31; the turn that changes nothing
is log entry 1. -/
def Obligations.FaultedAgentTakesNoStep : Prop :=
  ∀ (s : State) (ts : List Turn), s.refusal = none →
    (∀ h, s.agenda = .engine h :: ts → s.halted (.engine h) = true →
      step s = .next { s with agenda := ts, actor := .engine h }) ∧
    (∀ m a, s.agenda = .master m a :: ts → s.halted (.master m) = true →
      step s = .next { s with agenda := ts, actor := .master m })

/-- R44, R213, R214: no step clears a fault, and no step leaves a refused state. Decision D31; that a refused state
has no next one is log entry 7. -/
def Obligations.FaultsAndRefusalAreNeverCleared : Prop :=
  (∀ (s t : State), step s = .next t → ∀ r ∈ s.faults, r ∈ t.faults) ∧
  ∀ (s : State) (r : Refusal), s.refusal = some r → step s = .refused r

/-- R43: a wire history is only appended to. Decision D18. -/
def Obligations.WireHistoryOnlyGrows : Prop :=
  ∀ (s t : State) (h : Handle), step s = .next t → ∃ fs, (t.ctrl.get h).wire = (s.ctrl.get h).wire ++ fs

/-- R9: instances share no state: what acts on one controller or engine leaves the others alone. Decision D39. -/
def Obligations.InstancesShareNoState : Prop :=
  ∀ (s t : State) (h k : Handle), k ≠ h →
    (∀ i, exec i s = .next t → (accessedCtrl i = some h ∨ i = .init h ∨ i = .flushFifos h ∨
        (∃ len bytes, i = .send h len bytes) ∨ ∃ len, i = .receive h len) →
      t.ctrl.get k = s.ctrl.get k ∧ t.eng.get k = s.eng.get k) ∧
    (∀ u ∈ [Turn.engine h, .frame h, .complete h, .flushTx h, .flushRx h], takeTurn u s = .next t →
      t.ctrl.get k = s.ctrl.get k ∧ t.eng.get k = s.eng.get k)

/-- R8, R222, R225: only the Time agent moves time, by one; no step changes the parameters or the counter's offset.
Decisions D27, D33. -/
def Obligations.OnlyTimeMovesTheCounter : Prop :=
  ∀ s t : State, step s = .next t →
    t.now = (if s.turn = .time then s.now + 1 else s.now) ∧ t.cfg = s.cfg ∧ t.tmr.cntr0 = s.tmr.cntr0

/-- R24, R38, R114, R115, R142, R170, R182, R213, R223: every step of every agent keeps the invariant `State.Ok`. Each
field of `State.Ok` names its rule. -/
def Obligations.EveryStepKeepsTheInvariant : Prop :=
  ∀ s t : State, s.Ok → step s = .next t → t.Ok

/-- R45: the invariant holds after reset, for every draw R45 admits. Decision D22. -/
def Obligations.ResetMeetsTheInvariant : Prop :=
  ∀ (p : Params) (d : ResetDraws), d.Admitted p → (State.resetOf p d).Ok

/-- R45, R240: what reset leaves, for every draw. Decision D22. -/
def Obligations.ResetLeavesEveryControllerIdle : Prop :=
  ∀ (p : Params) (d : ResetDraws) (h : Handle),
    let s := State.resetOf p d
    (s.ctrl.get h).busy = false ∧ (s.ctrl.get h).framesLeft = 0 ∧ (s.ctrl.get h).rdy = true ∧
      (s.ctrl.get h).flushTx = false ∧ (s.ctrl.get h).flushRx = false ∧ (s.ctrl.get h).stale = false ∧
      (s.ctrl.get h).tLastw = none ∧ (s.ctrl.get h).wire = [] ∧ (s.eng.get h).busyCmd = false ∧
      (s.eng.get h).initialized = false ∧ s.faults = [] ∧ s.refusal = none ∧ s.tmr.usecCfg = usecCfgOf p

/-! ## Liveness (R152, R225, R251) -/

/-- R152: under HEALTHY, a transfer under way is completed. Decision D30; the premise's form is log entry 21. -/
def Obligations.HealthyControllerCompletesItsTransfer : Prop :=
  ∀ (τ : Nat → Turn) (σ : Nat → State) (h : Handle) (n : Nat), Driven τ σ → Healthy h τ σ →
    ((σ n).ctrl.get h).busy = true → ∃ m, n ≤ m ∧ ((σ m).ctrl.get h).busy = false

/-- R152: under HEALTHY, a flush under way is completed, of either FIFO. Decision D30; the premise's form is log entry 21. -/
def Obligations.HealthyControllerCompletesItsFlush : Prop :=
  ∀ (τ : Nat → Turn) (σ : Nat → State) (h : Handle) (n : Nat), Driven τ σ → Healthy h τ σ →
    (((σ n).ctrl.get h).flushTx = true →
      ∃ m, n ≤ m ∧ ((σ m).ctrl.get h).flushTx = false ∧ ((σ m).ctrl.get h).txq = []) ∧
    (((σ n).ctrl.get h).flushRx = true →
      ∃ m, n ≤ m ∧ ((σ m).ctrl.get h).flushRx = false ∧ ((σ m).ctrl.get h).rxq = [])

/-- R225: in a fair infinite run time grows without bound. Decision D27; the premise's form is log entry 21. -/
def Obligations.TimeGrowsWithoutBound : Prop :=
  ∀ (τ : Nat → Turn) (σ : Nat → State), Driven τ σ → TimeFair τ σ → ∀ b : Nat, ∃ n, b ≤ (σ n).now
end

