-- ==== Sys2Proof/Laws/Bits.lean ====
section
/-! SUPPORT. The bits of field masks and of register words, one lemma per helper, and the constants of 30_encoding R85 at the
default positions. -/

namespace Sys2Proof.Machine

open Sys2Proof.Config (Params)

/-! ## Bit by bit -/

@[simp] theorem getLsbD_fieldMask (lo len i : Nat) :
    (fieldMask lo len).getLsbD i = (decide (i < 32) && (decide (lo ≤ i) && decide (i < lo + len))) := by
  have hpow : (2 ^ len - 1).testBit (i - lo) = decide (i - lo < len) := Nat.testBit_two_pow_sub_one len (i - lo)
  simp only [fieldMask, BitVec.getLsbD_ofNat, Nat.testBit_shiftLeft, hpow]
  by_cases h : lo ≤ i
  · have : (i - lo < len) ↔ (i < lo + len) := by omega
    simp [h, this]
  · simp [h]

theorem getLsbD_putField (w : Word) (lo len : Nat) (v : BitVec len) (i : Nat) (hi : i < 32) :
    (putField w lo len v).getLsbD i = if lo ≤ i ∧ i < lo + len then v.getLsbD (i - lo) else w.getLsbD i := by
  simp only [putField, BitVec.getLsbD_or, BitVec.getLsbD_and, BitVec.getLsbD_not, getLsbD_fieldMask,
    BitVec.getLsbD_shiftLeft, BitVec.getLsbD_setWidth]
  by_cases h1 : lo ≤ i
  · by_cases h2 : i < lo + len
    · have h3 : ¬ i < lo := by omega
      have h4 : i - lo < 32 := by omega
      simp [h1, h2, hi, h3, h4]
    · have h3 : v.getLsbD (i - lo) = false := BitVec.getLsbD_of_ge v (i - lo) (by omega)
      simp [h1, h2, hi, h3]
  · have h3 : i < lo := by omega
    simp [h1, hi, h3]

theorem getLsbD_putBit (w : Word) (lo : Nat) (b : Bool) (i : Nat) (hi : i < 32) :
    (putBit w lo b).getLsbD i = if i = lo then b else w.getLsbD i := by
  rw [putBit, getLsbD_putField _ _ _ _ _ hi]
  by_cases h : i = lo
  · subst h
    simp
  · rw [if_neg (by omega), if_neg h]

theorem getElem_putBit (w : Word) (lo : Nat) (b : Bool) (i : Nat) (hi : i < 32) :
    (putBit w lo b)[i] = if i = lo then b else w[i] := by
  simpa only [BitVec.getLsbD_eq_getElem hi] using getLsbD_putBit w lo b i hi

theorem getLsbD_mergeBits (m a b : Word) (i : Nat) (hi : i < 32) :
    (mergeBits m a b).getLsbD i = if m.getLsbD i then a.getLsbD i else b.getLsbD i := by
  simp only [mergeBits, BitVec.getLsbD_or, BitVec.getLsbD_and, BitVec.getLsbD_not, hi, decide_true, Bool.true_and]
  cases m.getLsbD i <;> simp

/-- A field read back after it is put in is the value put in. -/
theorem getField_putField_self (w : Word) (lo len : Nat) (v : BitVec len) (h : lo + len ≤ 32) :
    getField (putField w lo len v) lo len = v := by
  apply BitVec.eq_of_getLsbD_eq
  intro i hi
  simp only [getField, BitVec.getLsbD_extractLsb', hi, decide_true, Bool.true_and]
  rw [getLsbD_putField _ _ _ _ _ (by omega), if_pos (by omega)]
  simp

/-- A field read back after another field is put in is unchanged. -/
theorem getField_putField_apart (w : Word) (lo len : Nat) (v : BitVec len) (lo' len' : Nat)
    (h : lo' + len' ≤ 32) (ha : lo' + len' ≤ lo ∨ lo + len ≤ lo') :
    getField (putField w lo len v) lo' len' = getField w lo' len' := by
  apply BitVec.eq_of_getLsbD_eq
  intro i hi
  simp only [getField, BitVec.getLsbD_extractLsb', hi, decide_true, Bool.true_and]
  rw [getLsbD_putField _ _ _ _ _ (by omega), if_neg (by omega)]

/-- A field read back after a bit outside it is put in is unchanged. -/
theorem getField_putBit_apart (w : Word) (lo : Nat) (b : Bool) (lo' len' : Nat)
    (h : lo' + len' ≤ 32) (ha : lo' + len' ≤ lo ∨ lo < lo') :
    getField (putBit w lo b) lo' len' = getField w lo' len' :=
  getField_putField_apart w lo 1 _ lo' len' h (by omega)

/-- `USEC_CFG` reads back what it holds, for every layout whose two fields share no bit (R223). -/
theorem usecCfgField_usecCfgWord (p : Params) (u : Config.UsecCfg) (draw : Word)
    (h : Config.fieldsFit p.timeBase.usecFields = true) : usecCfgField p (usecCfgWord p u draw) = u := by
  simp [Config.fieldsFit, Config.TimeBaseLayout.usecFields, Config.apart] at h
  simp only [usecCfgField, usecCfgWord]
  rw [getField_putField_self _ _ _ _ (by omega), getField_putField_apart _ _ _ _ _ _ (by omega) (by omega),
    getField_putField_self _ _ _ _ (by omega)]

/-- `CNTR_FREEZE` reads back what it holds, for every layout whose five bits are distinct (R224). -/
theorem freezeField_freezeWord (p : Params) (f : Freeze) (draw : Word)
    (h : Config.fieldsFit p.timeBase.freezeFields = true) : freezeField p (freezeWord p f draw) = f := by
  simp [Config.fieldsFit, Config.TimeBaseLayout.freezeFields, Config.apart] at h
  simp only [freezeField, freezeWord]
  repeat rw [getLsbD_putBit _ _ _ _ (by omega)]
  obtain ⟨b0, b1, b2, b3, b4⟩ := f
  simp only [Freeze.mk.injEq]
  refine ⟨?_, ?_, ?_, ?_, ?_⟩ <;> split_ifs <;> first | rfl | omega

/-- A one-bit mask selects its bit: the test a poll makes for 0. -/
theorem and_fieldMask_one_eq_zero (w : Word) (pos : Nat) (h : pos < 32) :
    w &&& fieldMask pos 1 = 0 ↔ w.getLsbD pos = false := by
  constructor
  · intro e
    have hb := congrArg (fun x : Word => x.getLsbD pos) e
    simpa only [BitVec.getLsbD_and, getLsbD_fieldMask, h, decide_true, Bool.true_and, Nat.le_refl,
      Nat.lt_succ_self, Bool.and_true, BitVec.ofNat_eq_ofNat, BitVec.getLsbD_zero] using hb
  · intro e
    apply BitVec.eq_of_getLsbD_eq
    intro i hi
    simp only [BitVec.getLsbD_and, getLsbD_fieldMask, hi, decide_true, Bool.true_and, BitVec.ofNat_eq_ofNat,
      BitVec.getLsbD_zero]
    by_cases hp : i = pos
    · rw [hp, e, Bool.false_and]
    · have hn : (decide (pos ≤ i) && decide (i < pos + 1)) = false := by
        simp only [Bool.and_eq_false_iff, decide_eq_false_iff_not]
        omega
      rw [hn, Bool.and_false]

/-- A one-bit mask selects its bit: the test a poll makes for 1. -/
theorem and_fieldMask_one_eq_mask (w : Word) (pos : Nat) (h : pos < 32) :
    w &&& fieldMask pos 1 = fieldMask pos 1 ↔ w.getLsbD pos = true := by
  constructor
  · intro e
    have hb := congrArg (fun x : Word => x.getLsbD pos) e
    simpa only [BitVec.getLsbD_and, getLsbD_fieldMask, h, decide_true, Bool.true_and, Nat.le_refl,
      Nat.lt_succ_self, Bool.and_true] using hb
  · intro e
    apply BitVec.eq_of_getLsbD_eq
    intro i hi
    simp only [BitVec.getLsbD_and, getLsbD_fieldMask, hi, decide_true, Bool.true_and]
    by_cases hp : i = pos
    · rw [hp, e, Bool.true_and]
    · have hn : (decide (pos ≤ i) && decide (i < pos + 1)) = false := by
        simp only [Bool.and_eq_false_iff, decide_eq_false_iff_not]
        omega
      rw [hn, Bool.and_false]

/-! ## The default positions (R85) -/

@[simp] theorem mPio_defaults : mPio Config.defaults = 0x80000000 := by decide
@[simp] theorem mCsSel_defaults : mCsSel Config.defaults = 0x0C000000 := by decide
@[simp] theorem mCsSwHw_defaults : mCsSwHw Config.defaults = 0x00200000 := by decide
@[simp] theorem mCsSwVal_defaults : mCsSwVal Config.defaults = 0x00100000 := by decide
@[simp] theorem mLsbitFe_defaults : mLsbitFe Config.defaults = 0x00010000 := by decide
@[simp] theorem mRxEn_defaults : mRxEn Config.defaults = 0x00001000 := by decide
@[simp] theorem mTxEn_defaults : mTxEn Config.defaults = 0x00000800 := by decide
@[simp] theorem mPacked_defaults : mPacked Config.defaults = 0x00000020 := by decide
@[simp] theorem mBitLength_defaults : mBitLength Config.defaults = 0x0000001F := by decide
@[simp] theorem vBits8_defaults : vBits8 Config.defaults = 0x00000007 := by decide
@[simp] theorem mRdy_defaults : mRdy Config.defaults = 0x40000000 := by decide
@[simp] theorem mFlushBoth_defaults : mFlushBoth Config.defaults = 0x0000C000 := by decide
@[simp] theorem mErrAll_defaults : mErrAll Config.defaults = 0x000001F0 := by decide
@[simp] theorem mErr_defaults : mErr Config.defaults = 0x00000100 := by decide
@[simp] theorem mCommand1Rw_defaults : mCommand1Rw Config.defaults = 0x7FFFF83F := by decide
@[simp] theorem mCommand1Reserved_defaults : mCommand1Reserved Config.defaults = 0x000007C0 := by decide
@[simp] theorem mBlkSize_defaults : mBlkSize Config.defaults = 0x0000FFFF := by decide

/-- The default parameters meet every check (R8, R38). -/
theorem defaults_wf : Config.defaults.wf = true := by decide

end Sys2Proof.Machine
end

