-- ==== Sys2Proof/Laws/Ctrl.lean ====
section
/-! SUPPORT. One lemma per field per update of a controller, so that no proof unfolds a record update. -/

namespace Sys2Proof.Machine

open Sys2Proof.Config (Params)

variable (c : Ctrl)

/-! ## `Ctrl.setCommand1` -/

@[simp] theorem Ctrl.setCommand1_command1 (p : Params) (d : Word) : (c.setCommand1 p d).command1 = storeCommand1 p d := rfl
@[simp] theorem Ctrl.setCommand1_busy (p : Params) (d : Word) : (c.setCommand1 p d).busy = c.busy := rfl
@[simp] theorem Ctrl.setCommand1_framesLeft (p : Params) (d : Word) : (c.setCommand1 p d).framesLeft = c.framesLeft := rfl
@[simp] theorem Ctrl.setCommand1_lat (p : Params) (d : Word) : (c.setCommand1 p d).lat = c.lat := rfl
@[simp] theorem Ctrl.setCommand1_rdy (p : Params) (d : Word) : (c.setCommand1 p d).rdy = c.rdy := rfl
@[simp] theorem Ctrl.setCommand1_err (p : Params) (d : Word) : (c.setCommand1 p d).err = c.err := rfl
@[simp] theorem Ctrl.setCommand1_txOvf (p : Params) (d : Word) : (c.setCommand1 p d).txOvf = c.txOvf := rfl
@[simp] theorem Ctrl.setCommand1_txUnf (p : Params) (d : Word) : (c.setCommand1 p d).txUnf = c.txUnf := rfl
@[simp] theorem Ctrl.setCommand1_rxOvf (p : Params) (d : Word) : (c.setCommand1 p d).rxOvf = c.rxOvf := rfl
@[simp] theorem Ctrl.setCommand1_rxUnf (p : Params) (d : Word) : (c.setCommand1 p d).rxUnf = c.rxUnf := rfl
@[simp] theorem Ctrl.setCommand1_flushTx (p : Params) (d : Word) : (c.setCommand1 p d).flushTx = c.flushTx := rfl
@[simp] theorem Ctrl.setCommand1_flushRx (p : Params) (d : Word) : (c.setCommand1 p d).flushRx = c.flushRx := rfl
@[simp] theorem Ctrl.setCommand1_blkSize (p : Params) (d : Word) : (c.setCommand1 p d).blkSize = c.blkSize := rfl
@[simp] theorem Ctrl.setCommand1_txq (p : Params) (d : Word) : (c.setCommand1 p d).txq = c.txq := rfl
@[simp] theorem Ctrl.setCommand1_rxq (p : Params) (d : Word) : (c.setCommand1 p d).rxq = c.rxq := rfl
@[simp] theorem Ctrl.setCommand1_stale (p : Params) (d : Word) : (c.setCommand1 p d).stale = c.stale := rfl
@[simp] theorem Ctrl.setCommand1_tTrig (p : Params) (d : Word) : (c.setCommand1 p d).tTrig = c.tTrig := rfl
@[simp] theorem Ctrl.setCommand1_tLastw (p : Params) (d : Word) : (c.setCommand1 p d).tLastw = c.tLastw := rfl
@[simp] theorem Ctrl.setCommand1_wire (p : Params) (d : Word) : (c.setCommand1 p d).wire = c.wire := rfl

/-! ## `Ctrl.setBlkSize` -/

@[simp] theorem Ctrl.setBlkSize_command1 (p : Params) (d : Word) : (c.setBlkSize p d).command1 = c.command1 := rfl
@[simp] theorem Ctrl.setBlkSize_busy (p : Params) (d : Word) : (c.setBlkSize p d).busy = c.busy := rfl
@[simp] theorem Ctrl.setBlkSize_framesLeft (p : Params) (d : Word) : (c.setBlkSize p d).framesLeft = c.framesLeft := rfl
@[simp] theorem Ctrl.setBlkSize_lat (p : Params) (d : Word) : (c.setBlkSize p d).lat = c.lat := rfl
@[simp] theorem Ctrl.setBlkSize_rdy (p : Params) (d : Word) : (c.setBlkSize p d).rdy = c.rdy := rfl
@[simp] theorem Ctrl.setBlkSize_err (p : Params) (d : Word) : (c.setBlkSize p d).err = c.err := rfl
@[simp] theorem Ctrl.setBlkSize_txOvf (p : Params) (d : Word) : (c.setBlkSize p d).txOvf = c.txOvf := rfl
@[simp] theorem Ctrl.setBlkSize_txUnf (p : Params) (d : Word) : (c.setBlkSize p d).txUnf = c.txUnf := rfl
@[simp] theorem Ctrl.setBlkSize_rxOvf (p : Params) (d : Word) : (c.setBlkSize p d).rxOvf = c.rxOvf := rfl
@[simp] theorem Ctrl.setBlkSize_rxUnf (p : Params) (d : Word) : (c.setBlkSize p d).rxUnf = c.rxUnf := rfl
@[simp] theorem Ctrl.setBlkSize_flushTx (p : Params) (d : Word) : (c.setBlkSize p d).flushTx = c.flushTx := rfl
@[simp] theorem Ctrl.setBlkSize_flushRx (p : Params) (d : Word) : (c.setBlkSize p d).flushRx = c.flushRx := rfl
@[simp] theorem Ctrl.setBlkSize_blkSize (p : Params) (d : Word) : (c.setBlkSize p d).blkSize = storeBlkSize p d := rfl
@[simp] theorem Ctrl.setBlkSize_txq (p : Params) (d : Word) : (c.setBlkSize p d).txq = c.txq := rfl
@[simp] theorem Ctrl.setBlkSize_rxq (p : Params) (d : Word) : (c.setBlkSize p d).rxq = c.rxq := rfl
@[simp] theorem Ctrl.setBlkSize_stale (p : Params) (d : Word) : (c.setBlkSize p d).stale = c.stale := rfl
@[simp] theorem Ctrl.setBlkSize_tTrig (p : Params) (d : Word) : (c.setBlkSize p d).tTrig = c.tTrig := rfl
@[simp] theorem Ctrl.setBlkSize_tLastw (p : Params) (d : Word) : (c.setBlkSize p d).tLastw = c.tLastw := rfl
@[simp] theorem Ctrl.setBlkSize_wire (p : Params) (d : Word) : (c.setBlkSize p d).wire = c.wire := rfl

/-! ## `Ctrl.touch` -/

@[simp] theorem Ctrl.touch_command1 (now : Nat) : (c.touch now).command1 = c.command1 := rfl
@[simp] theorem Ctrl.touch_busy (now : Nat) : (c.touch now).busy = c.busy := rfl
@[simp] theorem Ctrl.touch_framesLeft (now : Nat) : (c.touch now).framesLeft = c.framesLeft := rfl
@[simp] theorem Ctrl.touch_lat (now : Nat) : (c.touch now).lat = c.lat := rfl
@[simp] theorem Ctrl.touch_rdy (now : Nat) : (c.touch now).rdy = c.rdy := rfl
@[simp] theorem Ctrl.touch_err (now : Nat) : (c.touch now).err = c.err := rfl
@[simp] theorem Ctrl.touch_txOvf (now : Nat) : (c.touch now).txOvf = c.txOvf := rfl
@[simp] theorem Ctrl.touch_txUnf (now : Nat) : (c.touch now).txUnf = c.txUnf := rfl
@[simp] theorem Ctrl.touch_rxOvf (now : Nat) : (c.touch now).rxOvf = c.rxOvf := rfl
@[simp] theorem Ctrl.touch_rxUnf (now : Nat) : (c.touch now).rxUnf = c.rxUnf := rfl
@[simp] theorem Ctrl.touch_flushTx (now : Nat) : (c.touch now).flushTx = c.flushTx := rfl
@[simp] theorem Ctrl.touch_flushRx (now : Nat) : (c.touch now).flushRx = c.flushRx := rfl
@[simp] theorem Ctrl.touch_blkSize (now : Nat) : (c.touch now).blkSize = c.blkSize := rfl
@[simp] theorem Ctrl.touch_txq (now : Nat) : (c.touch now).txq = c.txq := rfl
@[simp] theorem Ctrl.touch_rxq (now : Nat) : (c.touch now).rxq = c.rxq := rfl
@[simp] theorem Ctrl.touch_stale (now : Nat) : (c.touch now).stale = c.stale := rfl
@[simp] theorem Ctrl.touch_tTrig (now : Nat) : (c.touch now).tTrig = c.tTrig := rfl
@[simp] theorem Ctrl.touch_tLastw (now : Nat) : (c.touch now).tLastw = some now := rfl
@[simp] theorem Ctrl.touch_wire (now : Nat) : (c.touch now).wire = c.wire := rfl

/-! ## `Ctrl.closeStale` -/

@[simp] theorem Ctrl.closeStale_command1 (now : Nat) : (c.closeStale now).command1 = c.command1 := rfl
@[simp] theorem Ctrl.closeStale_busy (now : Nat) : (c.closeStale now).busy = c.busy := rfl
@[simp] theorem Ctrl.closeStale_framesLeft (now : Nat) : (c.closeStale now).framesLeft = c.framesLeft := rfl
@[simp] theorem Ctrl.closeStale_lat (now : Nat) : (c.closeStale now).lat = c.lat := rfl
@[simp] theorem Ctrl.closeStale_rdy (now : Nat) : (c.closeStale now).rdy = c.rdy := rfl
@[simp] theorem Ctrl.closeStale_err (now : Nat) : (c.closeStale now).err = c.err := rfl
@[simp] theorem Ctrl.closeStale_txOvf (now : Nat) : (c.closeStale now).txOvf = c.txOvf := rfl
@[simp] theorem Ctrl.closeStale_txUnf (now : Nat) : (c.closeStale now).txUnf = c.txUnf := rfl
@[simp] theorem Ctrl.closeStale_rxOvf (now : Nat) : (c.closeStale now).rxOvf = c.rxOvf := rfl
@[simp] theorem Ctrl.closeStale_rxUnf (now : Nat) : (c.closeStale now).rxUnf = c.rxUnf := rfl
@[simp] theorem Ctrl.closeStale_flushTx (now : Nat) : (c.closeStale now).flushTx = c.flushTx := rfl
@[simp] theorem Ctrl.closeStale_flushRx (now : Nat) : (c.closeStale now).flushRx = c.flushRx := rfl
@[simp] theorem Ctrl.closeStale_blkSize (now : Nat) : (c.closeStale now).blkSize = c.blkSize := rfl
@[simp] theorem Ctrl.closeStale_txq (now : Nat) : (c.closeStale now).txq = c.txq := rfl
@[simp] theorem Ctrl.closeStale_rxq (now : Nat) : (c.closeStale now).rxq = c.rxq := rfl
@[simp] theorem Ctrl.closeStale_stale (now : Nat) : (c.closeStale now).stale = (c.stale && !(decide (Config.tTriggerUs ≤ now - c.tTrig))) := rfl
@[simp] theorem Ctrl.closeStale_tTrig (now : Nat) : (c.closeStale now).tTrig = c.tTrig := rfl
@[simp] theorem Ctrl.closeStale_tLastw (now : Nat) : (c.closeStale now).tLastw = c.tLastw := rfl
@[simp] theorem Ctrl.closeStale_wire (now : Nat) : (c.closeStale now).wire = c.wire := rfl

/-! ## `Ctrl.clearRdy` -/

@[simp] theorem Ctrl.clearRdy_command1 (p : Params) (d : Word) : (c.clearRdy p d).command1 = c.command1 := rfl
@[simp] theorem Ctrl.clearRdy_busy (p : Params) (d : Word) : (c.clearRdy p d).busy = c.busy := rfl
@[simp] theorem Ctrl.clearRdy_framesLeft (p : Params) (d : Word) : (c.clearRdy p d).framesLeft = c.framesLeft := rfl
@[simp] theorem Ctrl.clearRdy_lat (p : Params) (d : Word) : (c.clearRdy p d).lat = c.lat := rfl
@[simp] theorem Ctrl.clearRdy_rdy (p : Params) (d : Word) : (c.clearRdy p d).rdy = w1c d p.rdy c.rdy := rfl
@[simp] theorem Ctrl.clearRdy_err (p : Params) (d : Word) : (c.clearRdy p d).err = c.err := rfl
@[simp] theorem Ctrl.clearRdy_txOvf (p : Params) (d : Word) : (c.clearRdy p d).txOvf = c.txOvf := rfl
@[simp] theorem Ctrl.clearRdy_txUnf (p : Params) (d : Word) : (c.clearRdy p d).txUnf = c.txUnf := rfl
@[simp] theorem Ctrl.clearRdy_rxOvf (p : Params) (d : Word) : (c.clearRdy p d).rxOvf = c.rxOvf := rfl
@[simp] theorem Ctrl.clearRdy_rxUnf (p : Params) (d : Word) : (c.clearRdy p d).rxUnf = c.rxUnf := rfl
@[simp] theorem Ctrl.clearRdy_flushTx (p : Params) (d : Word) : (c.clearRdy p d).flushTx = c.flushTx := rfl
@[simp] theorem Ctrl.clearRdy_flushRx (p : Params) (d : Word) : (c.clearRdy p d).flushRx = c.flushRx := rfl
@[simp] theorem Ctrl.clearRdy_blkSize (p : Params) (d : Word) : (c.clearRdy p d).blkSize = c.blkSize := rfl
@[simp] theorem Ctrl.clearRdy_txq (p : Params) (d : Word) : (c.clearRdy p d).txq = c.txq := rfl
@[simp] theorem Ctrl.clearRdy_rxq (p : Params) (d : Word) : (c.clearRdy p d).rxq = c.rxq := rfl
@[simp] theorem Ctrl.clearRdy_stale (p : Params) (d : Word) : (c.clearRdy p d).stale = c.stale := rfl
@[simp] theorem Ctrl.clearRdy_tTrig (p : Params) (d : Word) : (c.clearRdy p d).tTrig = c.tTrig := rfl
@[simp] theorem Ctrl.clearRdy_tLastw (p : Params) (d : Word) : (c.clearRdy p d).tLastw = c.tLastw := rfl
@[simp] theorem Ctrl.clearRdy_wire (p : Params) (d : Word) : (c.clearRdy p d).wire = c.wire := rfl

/-! ## `Ctrl.clearErrors` -/

@[simp] theorem Ctrl.clearErrors_command1 (p : Params) (d : Word) : (c.clearErrors p d).command1 = c.command1 := rfl
@[simp] theorem Ctrl.clearErrors_busy (p : Params) (d : Word) : (c.clearErrors p d).busy = c.busy := rfl
@[simp] theorem Ctrl.clearErrors_framesLeft (p : Params) (d : Word) : (c.clearErrors p d).framesLeft = c.framesLeft := rfl
@[simp] theorem Ctrl.clearErrors_lat (p : Params) (d : Word) : (c.clearErrors p d).lat = c.lat := rfl
@[simp] theorem Ctrl.clearErrors_rdy (p : Params) (d : Word) : (c.clearErrors p d).rdy = c.rdy := rfl
@[simp] theorem Ctrl.clearErrors_err (p : Params) (d : Word) : (c.clearErrors p d).err = w1c d p.fifoStatus.err c.err := rfl
@[simp] theorem Ctrl.clearErrors_txOvf (p : Params) (d : Word) : (c.clearErrors p d).txOvf = w1c d p.fifoStatus.txOvf c.txOvf := rfl
@[simp] theorem Ctrl.clearErrors_txUnf (p : Params) (d : Word) : (c.clearErrors p d).txUnf = w1c d p.fifoStatus.txUnf c.txUnf := rfl
@[simp] theorem Ctrl.clearErrors_rxOvf (p : Params) (d : Word) : (c.clearErrors p d).rxOvf = w1c d p.fifoStatus.rxOvf c.rxOvf := rfl
@[simp] theorem Ctrl.clearErrors_rxUnf (p : Params) (d : Word) : (c.clearErrors p d).rxUnf = w1c d p.fifoStatus.rxUnf c.rxUnf := rfl
@[simp] theorem Ctrl.clearErrors_flushTx (p : Params) (d : Word) : (c.clearErrors p d).flushTx = c.flushTx := rfl
@[simp] theorem Ctrl.clearErrors_flushRx (p : Params) (d : Word) : (c.clearErrors p d).flushRx = c.flushRx := rfl
@[simp] theorem Ctrl.clearErrors_blkSize (p : Params) (d : Word) : (c.clearErrors p d).blkSize = c.blkSize := rfl
@[simp] theorem Ctrl.clearErrors_txq (p : Params) (d : Word) : (c.clearErrors p d).txq = c.txq := rfl
@[simp] theorem Ctrl.clearErrors_rxq (p : Params) (d : Word) : (c.clearErrors p d).rxq = c.rxq := rfl
@[simp] theorem Ctrl.clearErrors_stale (p : Params) (d : Word) : (c.clearErrors p d).stale = c.stale := rfl
@[simp] theorem Ctrl.clearErrors_tTrig (p : Params) (d : Word) : (c.clearErrors p d).tTrig = c.tTrig := rfl
@[simp] theorem Ctrl.clearErrors_tLastw (p : Params) (d : Word) : (c.clearErrors p d).tLastw = c.tLastw := rfl
@[simp] theorem Ctrl.clearErrors_wire (p : Params) (d : Word) : (c.clearErrors p d).wire = c.wire := rfl

/-! ## `Ctrl.startFlush` -/

@[simp] theorem Ctrl.startFlush_command1 (p : Params) (d : Word) : (c.startFlush p d).command1 = c.command1 := rfl
@[simp] theorem Ctrl.startFlush_busy (p : Params) (d : Word) : (c.startFlush p d).busy = c.busy := rfl
@[simp] theorem Ctrl.startFlush_framesLeft (p : Params) (d : Word) : (c.startFlush p d).framesLeft = c.framesLeft := rfl
@[simp] theorem Ctrl.startFlush_lat (p : Params) (d : Word) : (c.startFlush p d).lat = c.lat := rfl
@[simp] theorem Ctrl.startFlush_rdy (p : Params) (d : Word) : (c.startFlush p d).rdy = c.rdy := rfl
@[simp] theorem Ctrl.startFlush_err (p : Params) (d : Word) : (c.startFlush p d).err = c.err := rfl
@[simp] theorem Ctrl.startFlush_txOvf (p : Params) (d : Word) : (c.startFlush p d).txOvf = c.txOvf := rfl
@[simp] theorem Ctrl.startFlush_txUnf (p : Params) (d : Word) : (c.startFlush p d).txUnf = c.txUnf := rfl
@[simp] theorem Ctrl.startFlush_rxOvf (p : Params) (d : Word) : (c.startFlush p d).rxOvf = c.rxOvf := rfl
@[simp] theorem Ctrl.startFlush_rxUnf (p : Params) (d : Word) : (c.startFlush p d).rxUnf = c.rxUnf := rfl
@[simp] theorem Ctrl.startFlush_flushTx (p : Params) (d : Word) : (c.startFlush p d).flushTx = (c.flushTx || d.getLsbD p.fifoStatus.txFlush) := rfl
@[simp] theorem Ctrl.startFlush_flushRx (p : Params) (d : Word) : (c.startFlush p d).flushRx = (c.flushRx || d.getLsbD p.fifoStatus.rxFlush) := rfl
@[simp] theorem Ctrl.startFlush_blkSize (p : Params) (d : Word) : (c.startFlush p d).blkSize = c.blkSize := rfl
@[simp] theorem Ctrl.startFlush_txq (p : Params) (d : Word) : (c.startFlush p d).txq = c.txq := rfl
@[simp] theorem Ctrl.startFlush_rxq (p : Params) (d : Word) : (c.startFlush p d).rxq = c.rxq := rfl
@[simp] theorem Ctrl.startFlush_stale (p : Params) (d : Word) : (c.startFlush p d).stale = c.stale := rfl
@[simp] theorem Ctrl.startFlush_tTrig (p : Params) (d : Word) : (c.startFlush p d).tTrig = c.tTrig := rfl
@[simp] theorem Ctrl.startFlush_tLastw (p : Params) (d : Word) : (c.startFlush p d).tLastw = c.tLastw := rfl
@[simp] theorem Ctrl.startFlush_wire (p : Params) (d : Word) : (c.startFlush p d).wire = c.wire := rfl

/-! ## `Ctrl.start` -/

@[simp] theorem Ctrl.start_command1 (p : Params) (now : Nat) : (c.start p now).command1 = c.command1 := rfl
@[simp] theorem Ctrl.start_busy (p : Params) (now : Nat) : (c.start p now).busy = true := rfl
@[simp] theorem Ctrl.start_framesLeft (p : Params) (now : Nat) : (c.start p now).framesLeft = blockFrames c.blkSize := rfl
@[simp] theorem Ctrl.start_lat (p : Params) (now : Nat) : (c.start p now).lat = ⟨txEn p c.command1, rxEn p c.command1, lsbitFe p c.command1⟩ := rfl
@[simp] theorem Ctrl.start_rdy (p : Params) (now : Nat) : (c.start p now).rdy = c.rdy := rfl
@[simp] theorem Ctrl.start_err (p : Params) (now : Nat) : (c.start p now).err = c.err := rfl
@[simp] theorem Ctrl.start_txOvf (p : Params) (now : Nat) : (c.start p now).txOvf = c.txOvf := rfl
@[simp] theorem Ctrl.start_txUnf (p : Params) (now : Nat) : (c.start p now).txUnf = c.txUnf := rfl
@[simp] theorem Ctrl.start_rxOvf (p : Params) (now : Nat) : (c.start p now).rxOvf = c.rxOvf := rfl
@[simp] theorem Ctrl.start_rxUnf (p : Params) (now : Nat) : (c.start p now).rxUnf = c.rxUnf := rfl
@[simp] theorem Ctrl.start_flushTx (p : Params) (now : Nat) : (c.start p now).flushTx = c.flushTx := rfl
@[simp] theorem Ctrl.start_flushRx (p : Params) (now : Nat) : (c.start p now).flushRx = c.flushRx := rfl
@[simp] theorem Ctrl.start_blkSize (p : Params) (now : Nat) : (c.start p now).blkSize = c.blkSize := rfl
@[simp] theorem Ctrl.start_txq (p : Params) (now : Nat) : (c.start p now).txq = c.txq := rfl
@[simp] theorem Ctrl.start_rxq (p : Params) (now : Nat) : (c.start p now).rxq = c.rxq := rfl
@[simp] theorem Ctrl.start_stale (p : Params) (now : Nat) : (c.start p now).stale = true := rfl
@[simp] theorem Ctrl.start_tTrig (p : Params) (now : Nat) : (c.start p now).tTrig = now := rfl
@[simp] theorem Ctrl.start_tLastw (p : Params) (now : Nat) : (c.start p now).tLastw = c.tLastw := rfl
@[simp] theorem Ctrl.start_wire (p : Params) (now : Nat) : (c.start p now).wire = c.wire := rfl

/-! ## `Ctrl.flagTxOvf` -/

@[simp] theorem Ctrl.flagTxOvf_command1 : c.flagTxOvf.command1 = c.command1 := rfl
@[simp] theorem Ctrl.flagTxOvf_busy : c.flagTxOvf.busy = c.busy := rfl
@[simp] theorem Ctrl.flagTxOvf_framesLeft : c.flagTxOvf.framesLeft = c.framesLeft := rfl
@[simp] theorem Ctrl.flagTxOvf_lat : c.flagTxOvf.lat = c.lat := rfl
@[simp] theorem Ctrl.flagTxOvf_rdy : c.flagTxOvf.rdy = c.rdy := rfl
@[simp] theorem Ctrl.flagTxOvf_err : c.flagTxOvf.err = true := rfl
@[simp] theorem Ctrl.flagTxOvf_txOvf : c.flagTxOvf.txOvf = true := rfl
@[simp] theorem Ctrl.flagTxOvf_txUnf : c.flagTxOvf.txUnf = c.txUnf := rfl
@[simp] theorem Ctrl.flagTxOvf_rxOvf : c.flagTxOvf.rxOvf = c.rxOvf := rfl
@[simp] theorem Ctrl.flagTxOvf_rxUnf : c.flagTxOvf.rxUnf = c.rxUnf := rfl
@[simp] theorem Ctrl.flagTxOvf_flushTx : c.flagTxOvf.flushTx = c.flushTx := rfl
@[simp] theorem Ctrl.flagTxOvf_flushRx : c.flagTxOvf.flushRx = c.flushRx := rfl
@[simp] theorem Ctrl.flagTxOvf_blkSize : c.flagTxOvf.blkSize = c.blkSize := rfl
@[simp] theorem Ctrl.flagTxOvf_txq : c.flagTxOvf.txq = c.txq := rfl
@[simp] theorem Ctrl.flagTxOvf_rxq : c.flagTxOvf.rxq = c.rxq := rfl
@[simp] theorem Ctrl.flagTxOvf_stale : c.flagTxOvf.stale = c.stale := rfl
@[simp] theorem Ctrl.flagTxOvf_tTrig : c.flagTxOvf.tTrig = c.tTrig := rfl
@[simp] theorem Ctrl.flagTxOvf_tLastw : c.flagTxOvf.tLastw = c.tLastw := rfl
@[simp] theorem Ctrl.flagTxOvf_wire : c.flagTxOvf.wire = c.wire := rfl

/-! ## `Ctrl.flagTxUnf` -/

@[simp] theorem Ctrl.flagTxUnf_command1 : c.flagTxUnf.command1 = c.command1 := rfl
@[simp] theorem Ctrl.flagTxUnf_busy : c.flagTxUnf.busy = c.busy := rfl
@[simp] theorem Ctrl.flagTxUnf_framesLeft : c.flagTxUnf.framesLeft = c.framesLeft := rfl
@[simp] theorem Ctrl.flagTxUnf_lat : c.flagTxUnf.lat = c.lat := rfl
@[simp] theorem Ctrl.flagTxUnf_rdy : c.flagTxUnf.rdy = c.rdy := rfl
@[simp] theorem Ctrl.flagTxUnf_err : c.flagTxUnf.err = true := rfl
@[simp] theorem Ctrl.flagTxUnf_txOvf : c.flagTxUnf.txOvf = c.txOvf := rfl
@[simp] theorem Ctrl.flagTxUnf_txUnf : c.flagTxUnf.txUnf = true := rfl
@[simp] theorem Ctrl.flagTxUnf_rxOvf : c.flagTxUnf.rxOvf = c.rxOvf := rfl
@[simp] theorem Ctrl.flagTxUnf_rxUnf : c.flagTxUnf.rxUnf = c.rxUnf := rfl
@[simp] theorem Ctrl.flagTxUnf_flushTx : c.flagTxUnf.flushTx = c.flushTx := rfl
@[simp] theorem Ctrl.flagTxUnf_flushRx : c.flagTxUnf.flushRx = c.flushRx := rfl
@[simp] theorem Ctrl.flagTxUnf_blkSize : c.flagTxUnf.blkSize = c.blkSize := rfl
@[simp] theorem Ctrl.flagTxUnf_txq : c.flagTxUnf.txq = c.txq := rfl
@[simp] theorem Ctrl.flagTxUnf_rxq : c.flagTxUnf.rxq = c.rxq := rfl
@[simp] theorem Ctrl.flagTxUnf_stale : c.flagTxUnf.stale = c.stale := rfl
@[simp] theorem Ctrl.flagTxUnf_tTrig : c.flagTxUnf.tTrig = c.tTrig := rfl
@[simp] theorem Ctrl.flagTxUnf_tLastw : c.flagTxUnf.tLastw = c.tLastw := rfl
@[simp] theorem Ctrl.flagTxUnf_wire : c.flagTxUnf.wire = c.wire := rfl

/-! ## `Ctrl.flagRxOvf` -/

@[simp] theorem Ctrl.flagRxOvf_command1 : c.flagRxOvf.command1 = c.command1 := rfl
@[simp] theorem Ctrl.flagRxOvf_busy : c.flagRxOvf.busy = c.busy := rfl
@[simp] theorem Ctrl.flagRxOvf_framesLeft : c.flagRxOvf.framesLeft = c.framesLeft := rfl
@[simp] theorem Ctrl.flagRxOvf_lat : c.flagRxOvf.lat = c.lat := rfl
@[simp] theorem Ctrl.flagRxOvf_rdy : c.flagRxOvf.rdy = c.rdy := rfl
@[simp] theorem Ctrl.flagRxOvf_err : c.flagRxOvf.err = true := rfl
@[simp] theorem Ctrl.flagRxOvf_txOvf : c.flagRxOvf.txOvf = c.txOvf := rfl
@[simp] theorem Ctrl.flagRxOvf_txUnf : c.flagRxOvf.txUnf = c.txUnf := rfl
@[simp] theorem Ctrl.flagRxOvf_rxOvf : c.flagRxOvf.rxOvf = true := rfl
@[simp] theorem Ctrl.flagRxOvf_rxUnf : c.flagRxOvf.rxUnf = c.rxUnf := rfl
@[simp] theorem Ctrl.flagRxOvf_flushTx : c.flagRxOvf.flushTx = c.flushTx := rfl
@[simp] theorem Ctrl.flagRxOvf_flushRx : c.flagRxOvf.flushRx = c.flushRx := rfl
@[simp] theorem Ctrl.flagRxOvf_blkSize : c.flagRxOvf.blkSize = c.blkSize := rfl
@[simp] theorem Ctrl.flagRxOvf_txq : c.flagRxOvf.txq = c.txq := rfl
@[simp] theorem Ctrl.flagRxOvf_rxq : c.flagRxOvf.rxq = c.rxq := rfl
@[simp] theorem Ctrl.flagRxOvf_stale : c.flagRxOvf.stale = c.stale := rfl
@[simp] theorem Ctrl.flagRxOvf_tTrig : c.flagRxOvf.tTrig = c.tTrig := rfl
@[simp] theorem Ctrl.flagRxOvf_tLastw : c.flagRxOvf.tLastw = c.tLastw := rfl
@[simp] theorem Ctrl.flagRxOvf_wire : c.flagRxOvf.wire = c.wire := rfl

/-! ## `Ctrl.flagRxUnf` -/

@[simp] theorem Ctrl.flagRxUnf_command1 : c.flagRxUnf.command1 = c.command1 := rfl
@[simp] theorem Ctrl.flagRxUnf_busy : c.flagRxUnf.busy = c.busy := rfl
@[simp] theorem Ctrl.flagRxUnf_framesLeft : c.flagRxUnf.framesLeft = c.framesLeft := rfl
@[simp] theorem Ctrl.flagRxUnf_lat : c.flagRxUnf.lat = c.lat := rfl
@[simp] theorem Ctrl.flagRxUnf_rdy : c.flagRxUnf.rdy = c.rdy := rfl
@[simp] theorem Ctrl.flagRxUnf_err : c.flagRxUnf.err = true := rfl
@[simp] theorem Ctrl.flagRxUnf_txOvf : c.flagRxUnf.txOvf = c.txOvf := rfl
@[simp] theorem Ctrl.flagRxUnf_txUnf : c.flagRxUnf.txUnf = c.txUnf := rfl
@[simp] theorem Ctrl.flagRxUnf_rxOvf : c.flagRxUnf.rxOvf = c.rxOvf := rfl
@[simp] theorem Ctrl.flagRxUnf_rxUnf : c.flagRxUnf.rxUnf = true := rfl
@[simp] theorem Ctrl.flagRxUnf_flushTx : c.flagRxUnf.flushTx = c.flushTx := rfl
@[simp] theorem Ctrl.flagRxUnf_flushRx : c.flagRxUnf.flushRx = c.flushRx := rfl
@[simp] theorem Ctrl.flagRxUnf_blkSize : c.flagRxUnf.blkSize = c.blkSize := rfl
@[simp] theorem Ctrl.flagRxUnf_txq : c.flagRxUnf.txq = c.txq := rfl
@[simp] theorem Ctrl.flagRxUnf_rxq : c.flagRxUnf.rxq = c.rxq := rfl
@[simp] theorem Ctrl.flagRxUnf_stale : c.flagRxUnf.stale = c.stale := rfl
@[simp] theorem Ctrl.flagRxUnf_tTrig : c.flagRxUnf.tTrig = c.tTrig := rfl
@[simp] theorem Ctrl.flagRxUnf_tLastw : c.flagRxUnf.tLastw = c.tLastw := rfl
@[simp] theorem Ctrl.flagRxUnf_wire : c.flagRxUnf.wire = c.wire := rfl

/-! ## `Ctrl.flagGeneric` -/

@[simp] theorem Ctrl.flagGeneric_command1 : c.flagGeneric.command1 = c.command1 := rfl
@[simp] theorem Ctrl.flagGeneric_busy : c.flagGeneric.busy = c.busy := rfl
@[simp] theorem Ctrl.flagGeneric_framesLeft : c.flagGeneric.framesLeft = c.framesLeft := rfl
@[simp] theorem Ctrl.flagGeneric_lat : c.flagGeneric.lat = c.lat := rfl
@[simp] theorem Ctrl.flagGeneric_rdy : c.flagGeneric.rdy = c.rdy := rfl
@[simp] theorem Ctrl.flagGeneric_err : c.flagGeneric.err = true := rfl
@[simp] theorem Ctrl.flagGeneric_txOvf : c.flagGeneric.txOvf = c.txOvf := rfl
@[simp] theorem Ctrl.flagGeneric_txUnf : c.flagGeneric.txUnf = c.txUnf := rfl
@[simp] theorem Ctrl.flagGeneric_rxOvf : c.flagGeneric.rxOvf = c.rxOvf := rfl
@[simp] theorem Ctrl.flagGeneric_rxUnf : c.flagGeneric.rxUnf = c.rxUnf := rfl
@[simp] theorem Ctrl.flagGeneric_flushTx : c.flagGeneric.flushTx = c.flushTx := rfl
@[simp] theorem Ctrl.flagGeneric_flushRx : c.flagGeneric.flushRx = c.flushRx := rfl
@[simp] theorem Ctrl.flagGeneric_blkSize : c.flagGeneric.blkSize = c.blkSize := rfl
@[simp] theorem Ctrl.flagGeneric_txq : c.flagGeneric.txq = c.txq := rfl
@[simp] theorem Ctrl.flagGeneric_rxq : c.flagGeneric.rxq = c.rxq := rfl
@[simp] theorem Ctrl.flagGeneric_stale : c.flagGeneric.stale = c.stale := rfl
@[simp] theorem Ctrl.flagGeneric_tTrig : c.flagGeneric.tTrig = c.tTrig := rfl
@[simp] theorem Ctrl.flagGeneric_tLastw : c.flagGeneric.tLastw = c.tLastw := rfl
@[simp] theorem Ctrl.flagGeneric_wire : c.flagGeneric.wire = c.wire := rfl

/-! ## `Ctrl.complete` -/

@[simp] theorem Ctrl.complete_command1 : c.complete.command1 = c.command1 := rfl
@[simp] theorem Ctrl.complete_busy : c.complete.busy = false := rfl
@[simp] theorem Ctrl.complete_framesLeft : c.complete.framesLeft = c.framesLeft := rfl
@[simp] theorem Ctrl.complete_lat : c.complete.lat = c.lat := rfl
@[simp] theorem Ctrl.complete_rdy : c.complete.rdy = true := rfl
@[simp] theorem Ctrl.complete_err : c.complete.err = c.err := rfl
@[simp] theorem Ctrl.complete_txOvf : c.complete.txOvf = c.txOvf := rfl
@[simp] theorem Ctrl.complete_txUnf : c.complete.txUnf = c.txUnf := rfl
@[simp] theorem Ctrl.complete_rxOvf : c.complete.rxOvf = c.rxOvf := rfl
@[simp] theorem Ctrl.complete_rxUnf : c.complete.rxUnf = c.rxUnf := rfl
@[simp] theorem Ctrl.complete_flushTx : c.complete.flushTx = c.flushTx := rfl
@[simp] theorem Ctrl.complete_flushRx : c.complete.flushRx = c.flushRx := rfl
@[simp] theorem Ctrl.complete_blkSize : c.complete.blkSize = c.blkSize := rfl
@[simp] theorem Ctrl.complete_txq : c.complete.txq = c.txq := rfl
@[simp] theorem Ctrl.complete_rxq : c.complete.rxq = c.rxq := rfl
@[simp] theorem Ctrl.complete_stale : c.complete.stale = c.stale := rfl
@[simp] theorem Ctrl.complete_tTrig : c.complete.tTrig = c.tTrig := rfl
@[simp] theorem Ctrl.complete_tLastw : c.complete.tLastw = c.tLastw := rfl
@[simp] theorem Ctrl.complete_wire : c.complete.wire = c.wire := rfl

/-! ## `Ctrl.endFlushTx` -/

@[simp] theorem Ctrl.endFlushTx_command1 : c.endFlushTx.command1 = c.command1 := rfl
@[simp] theorem Ctrl.endFlushTx_busy : c.endFlushTx.busy = c.busy := rfl
@[simp] theorem Ctrl.endFlushTx_framesLeft : c.endFlushTx.framesLeft = c.framesLeft := rfl
@[simp] theorem Ctrl.endFlushTx_lat : c.endFlushTx.lat = c.lat := rfl
@[simp] theorem Ctrl.endFlushTx_rdy : c.endFlushTx.rdy = c.rdy := rfl
@[simp] theorem Ctrl.endFlushTx_err : c.endFlushTx.err = c.err := rfl
@[simp] theorem Ctrl.endFlushTx_txOvf : c.endFlushTx.txOvf = c.txOvf := rfl
@[simp] theorem Ctrl.endFlushTx_txUnf : c.endFlushTx.txUnf = c.txUnf := rfl
@[simp] theorem Ctrl.endFlushTx_rxOvf : c.endFlushTx.rxOvf = c.rxOvf := rfl
@[simp] theorem Ctrl.endFlushTx_rxUnf : c.endFlushTx.rxUnf = c.rxUnf := rfl
@[simp] theorem Ctrl.endFlushTx_flushTx : c.endFlushTx.flushTx = false := rfl
@[simp] theorem Ctrl.endFlushTx_flushRx : c.endFlushTx.flushRx = c.flushRx := rfl
@[simp] theorem Ctrl.endFlushTx_blkSize : c.endFlushTx.blkSize = c.blkSize := rfl
@[simp] theorem Ctrl.endFlushTx_txq : c.endFlushTx.txq = [] := rfl
@[simp] theorem Ctrl.endFlushTx_rxq : c.endFlushTx.rxq = c.rxq := rfl
@[simp] theorem Ctrl.endFlushTx_stale : c.endFlushTx.stale = c.stale := rfl
@[simp] theorem Ctrl.endFlushTx_tTrig : c.endFlushTx.tTrig = c.tTrig := rfl
@[simp] theorem Ctrl.endFlushTx_tLastw : c.endFlushTx.tLastw = c.tLastw := rfl
@[simp] theorem Ctrl.endFlushTx_wire : c.endFlushTx.wire = c.wire := rfl

/-! ## `Ctrl.endFlushRx` -/

@[simp] theorem Ctrl.endFlushRx_command1 : c.endFlushRx.command1 = c.command1 := rfl
@[simp] theorem Ctrl.endFlushRx_busy : c.endFlushRx.busy = c.busy := rfl
@[simp] theorem Ctrl.endFlushRx_framesLeft : c.endFlushRx.framesLeft = c.framesLeft := rfl
@[simp] theorem Ctrl.endFlushRx_lat : c.endFlushRx.lat = c.lat := rfl
@[simp] theorem Ctrl.endFlushRx_rdy : c.endFlushRx.rdy = c.rdy := rfl
@[simp] theorem Ctrl.endFlushRx_err : c.endFlushRx.err = c.err := rfl
@[simp] theorem Ctrl.endFlushRx_txOvf : c.endFlushRx.txOvf = c.txOvf := rfl
@[simp] theorem Ctrl.endFlushRx_txUnf : c.endFlushRx.txUnf = c.txUnf := rfl
@[simp] theorem Ctrl.endFlushRx_rxOvf : c.endFlushRx.rxOvf = c.rxOvf := rfl
@[simp] theorem Ctrl.endFlushRx_rxUnf : c.endFlushRx.rxUnf = c.rxUnf := rfl
@[simp] theorem Ctrl.endFlushRx_flushTx : c.endFlushRx.flushTx = c.flushTx := rfl
@[simp] theorem Ctrl.endFlushRx_flushRx : c.endFlushRx.flushRx = false := rfl
@[simp] theorem Ctrl.endFlushRx_blkSize : c.endFlushRx.blkSize = c.blkSize := rfl
@[simp] theorem Ctrl.endFlushRx_txq : c.endFlushRx.txq = c.txq := rfl
@[simp] theorem Ctrl.endFlushRx_rxq : c.endFlushRx.rxq = [] := rfl
@[simp] theorem Ctrl.endFlushRx_stale : c.endFlushRx.stale = c.stale := rfl
@[simp] theorem Ctrl.endFlushRx_tTrig : c.endFlushRx.tTrig = c.tTrig := rfl
@[simp] theorem Ctrl.endFlushRx_tLastw : c.endFlushRx.tLastw = c.tLastw := rfl
@[simp] theorem Ctrl.endFlushRx_wire : c.endFlushRx.wire = c.wire := rfl

/-! ## `Ctrl.pushTx`: what it leaves alone -/

@[simp] theorem Ctrl.pushTx_command1 (p : Params) (d : Word) : (c.pushTx p d).command1 = c.command1 := by
  unfold Ctrl.pushTx; (repeat' split) <;> rfl
@[simp] theorem Ctrl.pushTx_busy (p : Params) (d : Word) : (c.pushTx p d).busy = c.busy := by
  unfold Ctrl.pushTx; (repeat' split) <;> rfl
@[simp] theorem Ctrl.pushTx_framesLeft (p : Params) (d : Word) : (c.pushTx p d).framesLeft = c.framesLeft := by
  unfold Ctrl.pushTx; (repeat' split) <;> rfl
@[simp] theorem Ctrl.pushTx_lat (p : Params) (d : Word) : (c.pushTx p d).lat = c.lat := by
  unfold Ctrl.pushTx; (repeat' split) <;> rfl
@[simp] theorem Ctrl.pushTx_rdy (p : Params) (d : Word) : (c.pushTx p d).rdy = c.rdy := by
  unfold Ctrl.pushTx; (repeat' split) <;> rfl
@[simp] theorem Ctrl.pushTx_txUnf (p : Params) (d : Word) : (c.pushTx p d).txUnf = c.txUnf := by
  unfold Ctrl.pushTx; (repeat' split) <;> rfl
@[simp] theorem Ctrl.pushTx_rxOvf (p : Params) (d : Word) : (c.pushTx p d).rxOvf = c.rxOvf := by
  unfold Ctrl.pushTx; (repeat' split) <;> rfl
@[simp] theorem Ctrl.pushTx_rxUnf (p : Params) (d : Word) : (c.pushTx p d).rxUnf = c.rxUnf := by
  unfold Ctrl.pushTx; (repeat' split) <;> rfl
@[simp] theorem Ctrl.pushTx_flushTx (p : Params) (d : Word) : (c.pushTx p d).flushTx = c.flushTx := by
  unfold Ctrl.pushTx; (repeat' split) <;> rfl
@[simp] theorem Ctrl.pushTx_flushRx (p : Params) (d : Word) : (c.pushTx p d).flushRx = c.flushRx := by
  unfold Ctrl.pushTx; (repeat' split) <;> rfl
@[simp] theorem Ctrl.pushTx_blkSize (p : Params) (d : Word) : (c.pushTx p d).blkSize = c.blkSize := by
  unfold Ctrl.pushTx; (repeat' split) <;> rfl
@[simp] theorem Ctrl.pushTx_rxq (p : Params) (d : Word) : (c.pushTx p d).rxq = c.rxq := by
  unfold Ctrl.pushTx; (repeat' split) <;> rfl
@[simp] theorem Ctrl.pushTx_stale (p : Params) (d : Word) : (c.pushTx p d).stale = c.stale := by
  unfold Ctrl.pushTx; (repeat' split) <;> rfl
@[simp] theorem Ctrl.pushTx_tTrig (p : Params) (d : Word) : (c.pushTx p d).tTrig = c.tTrig := by
  unfold Ctrl.pushTx; (repeat' split) <;> rfl
@[simp] theorem Ctrl.pushTx_tLastw (p : Params) (d : Word) : (c.pushTx p d).tLastw = c.tLastw := by
  unfold Ctrl.pushTx; (repeat' split) <;> rfl
@[simp] theorem Ctrl.pushTx_wire (p : Params) (d : Word) : (c.pushTx p d).wire = c.wire := by
  unfold Ctrl.pushTx; (repeat' split) <;> rfl

/-! ## `Ctrl.popRx`: what it leaves alone -/

@[simp] theorem Ctrl.popRx_command1 : c.popRx.command1 = c.command1 := by
  unfold Ctrl.popRx; (repeat' split) <;> rfl
@[simp] theorem Ctrl.popRx_busy : c.popRx.busy = c.busy := by
  unfold Ctrl.popRx; (repeat' split) <;> rfl
@[simp] theorem Ctrl.popRx_framesLeft : c.popRx.framesLeft = c.framesLeft := by
  unfold Ctrl.popRx; (repeat' split) <;> rfl
@[simp] theorem Ctrl.popRx_lat : c.popRx.lat = c.lat := by
  unfold Ctrl.popRx; (repeat' split) <;> rfl
@[simp] theorem Ctrl.popRx_rdy : c.popRx.rdy = c.rdy := by
  unfold Ctrl.popRx; (repeat' split) <;> rfl
@[simp] theorem Ctrl.popRx_txOvf : c.popRx.txOvf = c.txOvf := by
  unfold Ctrl.popRx; (repeat' split) <;> rfl
@[simp] theorem Ctrl.popRx_txUnf : c.popRx.txUnf = c.txUnf := by
  unfold Ctrl.popRx; (repeat' split) <;> rfl
@[simp] theorem Ctrl.popRx_rxOvf : c.popRx.rxOvf = c.rxOvf := by
  unfold Ctrl.popRx; (repeat' split) <;> rfl
@[simp] theorem Ctrl.popRx_flushTx : c.popRx.flushTx = c.flushTx := by
  unfold Ctrl.popRx; (repeat' split) <;> rfl
@[simp] theorem Ctrl.popRx_flushRx : c.popRx.flushRx = c.flushRx := by
  unfold Ctrl.popRx; (repeat' split) <;> rfl
@[simp] theorem Ctrl.popRx_blkSize : c.popRx.blkSize = c.blkSize := by
  unfold Ctrl.popRx; (repeat' split) <;> rfl
@[simp] theorem Ctrl.popRx_txq : c.popRx.txq = c.txq := by
  unfold Ctrl.popRx; (repeat' split) <;> rfl
@[simp] theorem Ctrl.popRx_stale : c.popRx.stale = c.stale := by
  unfold Ctrl.popRx; (repeat' split) <;> rfl
@[simp] theorem Ctrl.popRx_tTrig : c.popRx.tTrig = c.tTrig := by
  unfold Ctrl.popRx; (repeat' split) <;> rfl
@[simp] theorem Ctrl.popRx_tLastw : c.popRx.tLastw = c.tLastw := by
  unfold Ctrl.popRx; (repeat' split) <;> rfl
@[simp] theorem Ctrl.popRx_wire : c.popRx.wire = c.wire := by
  unfold Ctrl.popRx; (repeat' split) <;> rfl

/-! ## `Ctrl.frameTx`: what it leaves alone -/

@[simp] theorem Ctrl.frameTx_command1 : c.frameTx.command1 = c.command1 := by
  unfold Ctrl.frameTx; (repeat' split) <;> rfl
@[simp] theorem Ctrl.frameTx_busy : c.frameTx.busy = c.busy := by
  unfold Ctrl.frameTx; (repeat' split) <;> rfl
@[simp] theorem Ctrl.frameTx_framesLeft : c.frameTx.framesLeft = c.framesLeft := by
  unfold Ctrl.frameTx; (repeat' split) <;> rfl
@[simp] theorem Ctrl.frameTx_lat : c.frameTx.lat = c.lat := by
  unfold Ctrl.frameTx; (repeat' split) <;> rfl
@[simp] theorem Ctrl.frameTx_rdy : c.frameTx.rdy = c.rdy := by
  unfold Ctrl.frameTx; (repeat' split) <;> rfl
@[simp] theorem Ctrl.frameTx_txOvf : c.frameTx.txOvf = c.txOvf := by
  unfold Ctrl.frameTx; (repeat' split) <;> rfl
@[simp] theorem Ctrl.frameTx_rxOvf : c.frameTx.rxOvf = c.rxOvf := by
  unfold Ctrl.frameTx; (repeat' split) <;> rfl
@[simp] theorem Ctrl.frameTx_rxUnf : c.frameTx.rxUnf = c.rxUnf := by
  unfold Ctrl.frameTx; (repeat' split) <;> rfl
@[simp] theorem Ctrl.frameTx_flushTx : c.frameTx.flushTx = c.flushTx := by
  unfold Ctrl.frameTx; (repeat' split) <;> rfl
@[simp] theorem Ctrl.frameTx_flushRx : c.frameTx.flushRx = c.flushRx := by
  unfold Ctrl.frameTx; (repeat' split) <;> rfl
@[simp] theorem Ctrl.frameTx_blkSize : c.frameTx.blkSize = c.blkSize := by
  unfold Ctrl.frameTx; (repeat' split) <;> rfl
@[simp] theorem Ctrl.frameTx_rxq : c.frameTx.rxq = c.rxq := by
  unfold Ctrl.frameTx; (repeat' split) <;> rfl
@[simp] theorem Ctrl.frameTx_stale : c.frameTx.stale = c.stale := by
  unfold Ctrl.frameTx; (repeat' split) <;> rfl
@[simp] theorem Ctrl.frameTx_tTrig : c.frameTx.tTrig = c.tTrig := by
  unfold Ctrl.frameTx; (repeat' split) <;> rfl
@[simp] theorem Ctrl.frameTx_tLastw : c.frameTx.tLastw = c.tLastw := by
  unfold Ctrl.frameTx; (repeat' split) <;> rfl
@[simp] theorem Ctrl.frameTx_wire : c.frameTx.wire = c.wire := by
  unfold Ctrl.frameTx; (repeat' split) <;> rfl

/-! ## `Ctrl.frameRx`: what it leaves alone -/

@[simp] theorem Ctrl.frameRx_command1 (p : Params) (i : FrameInputs) : (c.frameRx p i).command1 = c.command1 := by
  unfold Ctrl.frameRx; (repeat' split) <;> rfl
@[simp] theorem Ctrl.frameRx_busy (p : Params) (i : FrameInputs) : (c.frameRx p i).busy = c.busy := by
  unfold Ctrl.frameRx; (repeat' split) <;> rfl
@[simp] theorem Ctrl.frameRx_framesLeft (p : Params) (i : FrameInputs) : (c.frameRx p i).framesLeft = c.framesLeft := by
  unfold Ctrl.frameRx; (repeat' split) <;> rfl
@[simp] theorem Ctrl.frameRx_lat (p : Params) (i : FrameInputs) : (c.frameRx p i).lat = c.lat := by
  unfold Ctrl.frameRx; (repeat' split) <;> rfl
@[simp] theorem Ctrl.frameRx_rdy (p : Params) (i : FrameInputs) : (c.frameRx p i).rdy = c.rdy := by
  unfold Ctrl.frameRx; (repeat' split) <;> rfl
@[simp] theorem Ctrl.frameRx_txOvf (p : Params) (i : FrameInputs) : (c.frameRx p i).txOvf = c.txOvf := by
  unfold Ctrl.frameRx; (repeat' split) <;> rfl
@[simp] theorem Ctrl.frameRx_txUnf (p : Params) (i : FrameInputs) : (c.frameRx p i).txUnf = c.txUnf := by
  unfold Ctrl.frameRx; (repeat' split) <;> rfl
@[simp] theorem Ctrl.frameRx_rxUnf (p : Params) (i : FrameInputs) : (c.frameRx p i).rxUnf = c.rxUnf := by
  unfold Ctrl.frameRx; (repeat' split) <;> rfl
@[simp] theorem Ctrl.frameRx_flushTx (p : Params) (i : FrameInputs) : (c.frameRx p i).flushTx = c.flushTx := by
  unfold Ctrl.frameRx; (repeat' split) <;> rfl
@[simp] theorem Ctrl.frameRx_flushRx (p : Params) (i : FrameInputs) : (c.frameRx p i).flushRx = c.flushRx := by
  unfold Ctrl.frameRx; (repeat' split) <;> rfl
@[simp] theorem Ctrl.frameRx_blkSize (p : Params) (i : FrameInputs) : (c.frameRx p i).blkSize = c.blkSize := by
  unfold Ctrl.frameRx; (repeat' split) <;> rfl
@[simp] theorem Ctrl.frameRx_txq (p : Params) (i : FrameInputs) : (c.frameRx p i).txq = c.txq := by
  unfold Ctrl.frameRx; (repeat' split) <;> rfl
@[simp] theorem Ctrl.frameRx_stale (p : Params) (i : FrameInputs) : (c.frameRx p i).stale = c.stale := by
  unfold Ctrl.frameRx; (repeat' split) <;> rfl
@[simp] theorem Ctrl.frameRx_tTrig (p : Params) (i : FrameInputs) : (c.frameRx p i).tTrig = c.tTrig := by
  unfold Ctrl.frameRx; (repeat' split) <;> rfl
@[simp] theorem Ctrl.frameRx_tLastw (p : Params) (i : FrameInputs) : (c.frameRx p i).tLastw = c.tLastw := by
  unfold Ctrl.frameRx; (repeat' split) <;> rfl
@[simp] theorem Ctrl.frameRx_wire (p : Params) (i : FrameInputs) : (c.frameRx p i).wire = c.wire := by
  unfold Ctrl.frameRx; (repeat' split) <;> rfl

/-! ## `Ctrl.frameGeneric`: what it leaves alone -/

@[simp] theorem Ctrl.frameGeneric_command1 (i : FrameInputs) : (c.frameGeneric i).command1 = c.command1 := by
  unfold Ctrl.frameGeneric; (repeat' split) <;> rfl
@[simp] theorem Ctrl.frameGeneric_busy (i : FrameInputs) : (c.frameGeneric i).busy = c.busy := by
  unfold Ctrl.frameGeneric; (repeat' split) <;> rfl
@[simp] theorem Ctrl.frameGeneric_framesLeft (i : FrameInputs) : (c.frameGeneric i).framesLeft = c.framesLeft := by
  unfold Ctrl.frameGeneric; (repeat' split) <;> rfl
@[simp] theorem Ctrl.frameGeneric_lat (i : FrameInputs) : (c.frameGeneric i).lat = c.lat := by
  unfold Ctrl.frameGeneric; (repeat' split) <;> rfl
@[simp] theorem Ctrl.frameGeneric_rdy (i : FrameInputs) : (c.frameGeneric i).rdy = c.rdy := by
  unfold Ctrl.frameGeneric; (repeat' split) <;> rfl
@[simp] theorem Ctrl.frameGeneric_txOvf (i : FrameInputs) : (c.frameGeneric i).txOvf = c.txOvf := by
  unfold Ctrl.frameGeneric; (repeat' split) <;> rfl
@[simp] theorem Ctrl.frameGeneric_txUnf (i : FrameInputs) : (c.frameGeneric i).txUnf = c.txUnf := by
  unfold Ctrl.frameGeneric; (repeat' split) <;> rfl
@[simp] theorem Ctrl.frameGeneric_rxOvf (i : FrameInputs) : (c.frameGeneric i).rxOvf = c.rxOvf := by
  unfold Ctrl.frameGeneric; (repeat' split) <;> rfl
@[simp] theorem Ctrl.frameGeneric_rxUnf (i : FrameInputs) : (c.frameGeneric i).rxUnf = c.rxUnf := by
  unfold Ctrl.frameGeneric; (repeat' split) <;> rfl
@[simp] theorem Ctrl.frameGeneric_flushTx (i : FrameInputs) : (c.frameGeneric i).flushTx = c.flushTx := by
  unfold Ctrl.frameGeneric; (repeat' split) <;> rfl
@[simp] theorem Ctrl.frameGeneric_flushRx (i : FrameInputs) : (c.frameGeneric i).flushRx = c.flushRx := by
  unfold Ctrl.frameGeneric; (repeat' split) <;> rfl
@[simp] theorem Ctrl.frameGeneric_blkSize (i : FrameInputs) : (c.frameGeneric i).blkSize = c.blkSize := by
  unfold Ctrl.frameGeneric; (repeat' split) <;> rfl
@[simp] theorem Ctrl.frameGeneric_txq (i : FrameInputs) : (c.frameGeneric i).txq = c.txq := by
  unfold Ctrl.frameGeneric; (repeat' split) <;> rfl
@[simp] theorem Ctrl.frameGeneric_rxq (i : FrameInputs) : (c.frameGeneric i).rxq = c.rxq := by
  unfold Ctrl.frameGeneric; (repeat' split) <;> rfl
@[simp] theorem Ctrl.frameGeneric_stale (i : FrameInputs) : (c.frameGeneric i).stale = c.stale := by
  unfold Ctrl.frameGeneric; (repeat' split) <;> rfl
@[simp] theorem Ctrl.frameGeneric_tTrig (i : FrameInputs) : (c.frameGeneric i).tTrig = c.tTrig := by
  unfold Ctrl.frameGeneric; (repeat' split) <;> rfl
@[simp] theorem Ctrl.frameGeneric_tLastw (i : FrameInputs) : (c.frameGeneric i).tLastw = c.tLastw := by
  unfold Ctrl.frameGeneric; (repeat' split) <;> rfl
@[simp] theorem Ctrl.frameGeneric_wire (i : FrameInputs) : (c.frameGeneric i).wire = c.wire := by
  unfold Ctrl.frameGeneric; (repeat' split) <;> rfl

/-! ## `Ctrl.frame`: what it leaves alone, and what it counts and records -/

@[simp] theorem Ctrl.frame_command1 (p : Params) (h : Handle) (i : FrameInputs) :
    (c.frame p h i).command1 = c.command1 := by
  simp [Ctrl.frame]
@[simp] theorem Ctrl.frame_busy (p : Params) (h : Handle) (i : FrameInputs) :
    (c.frame p h i).busy = c.busy := by
  simp [Ctrl.frame]
@[simp] theorem Ctrl.frame_lat (p : Params) (h : Handle) (i : FrameInputs) :
    (c.frame p h i).lat = c.lat := by
  simp [Ctrl.frame]
@[simp] theorem Ctrl.frame_rdy (p : Params) (h : Handle) (i : FrameInputs) :
    (c.frame p h i).rdy = c.rdy := by
  simp [Ctrl.frame]
@[simp] theorem Ctrl.frame_txOvf (p : Params) (h : Handle) (i : FrameInputs) :
    (c.frame p h i).txOvf = c.txOvf := by
  simp [Ctrl.frame]
@[simp] theorem Ctrl.frame_rxUnf (p : Params) (h : Handle) (i : FrameInputs) :
    (c.frame p h i).rxUnf = c.rxUnf := by
  simp [Ctrl.frame]
@[simp] theorem Ctrl.frame_flushTx (p : Params) (h : Handle) (i : FrameInputs) :
    (c.frame p h i).flushTx = c.flushTx := by
  simp [Ctrl.frame]
@[simp] theorem Ctrl.frame_flushRx (p : Params) (h : Handle) (i : FrameInputs) :
    (c.frame p h i).flushRx = c.flushRx := by
  simp [Ctrl.frame]
@[simp] theorem Ctrl.frame_blkSize (p : Params) (h : Handle) (i : FrameInputs) :
    (c.frame p h i).blkSize = c.blkSize := by
  simp [Ctrl.frame]
@[simp] theorem Ctrl.frame_stale (p : Params) (h : Handle) (i : FrameInputs) :
    (c.frame p h i).stale = c.stale := by
  simp [Ctrl.frame]
@[simp] theorem Ctrl.frame_tTrig (p : Params) (h : Handle) (i : FrameInputs) :
    (c.frame p h i).tTrig = c.tTrig := by
  simp [Ctrl.frame]
@[simp] theorem Ctrl.frame_tLastw (p : Params) (h : Handle) (i : FrameInputs) :
    (c.frame p h i).tLastw = c.tLastw := by
  simp [Ctrl.frame]
@[simp] theorem Ctrl.frame_framesLeft (p : Params) (h : Handle) (i : FrameInputs) :
    (c.frame p h i).framesLeft = c.framesLeft - 1 := rfl
@[simp] theorem Ctrl.frame_wire (p : Params) (h : Handle) (i : FrameInputs) :
    (c.frame p h i).wire = c.wire ++ [c.frameEvent p h i] := rfl

/-! ## The FIFOs and the flags a frame and a port access change -/

theorem Ctrl.frameTx_txq : c.frameTx.txq = if c.lat.txEn then c.txq.tail else c.txq := by
  unfold Ctrl.frameTx
  split <;> [split <;> simp_all; rfl]
theorem Ctrl.frameTx_txUnf : c.frameTx.txUnf = (c.txUnf || (c.lat.txEn && c.txq.isEmpty)) := by
  unfold Ctrl.frameTx
  split <;> [split <;> simp_all; simp_all]
theorem Ctrl.frameTx_err : c.frameTx.err = (c.err || (c.lat.txEn && c.txq.isEmpty)) := by
  unfold Ctrl.frameTx
  split <;> [split <;> simp_all; simp_all]
theorem Ctrl.frameRx_rxq (p : Params) (i : FrameInputs) : (c.frameRx p i).rxq =
    if c.lat.rxEn = true ∧ c.rxq.length < p.fifoDepth then c.rxq ++ [rxEntry i.upper i.miso] else c.rxq := by
  unfold Ctrl.frameRx
  split <;> [split <;> simp_all; simp_all]
theorem Ctrl.frameRx_rxOvf (p : Params) (i : FrameInputs) : (c.frameRx p i).rxOvf =
    (c.rxOvf || (c.lat.rxEn && decide (p.fifoDepth ≤ c.rxq.length))) := by
  unfold Ctrl.frameRx
  split <;> [(split <;> rename_i h1 h2 <;> simp [h1, Nat.not_le.2, Nat.le_of_not_lt, h2]; try omega); simp_all]
theorem Ctrl.frameRx_err (p : Params) (i : FrameInputs) : (c.frameRx p i).err =
    (c.err || (c.lat.rxEn && decide (p.fifoDepth ≤ c.rxq.length))) := by
  unfold Ctrl.frameRx
  split <;> [(split <;> rename_i h1 h2 <;> simp [h1, Nat.not_le.2, Nat.le_of_not_lt, h2]; try omega); simp_all]
theorem Ctrl.frameGeneric_err (i : FrameInputs) : (c.frameGeneric i).err = (c.err || i.genericError) := by
  unfold Ctrl.frameGeneric
  split <;> simp_all
theorem Ctrl.pushTx_txq (p : Params) (d : Word) : (c.pushTx p d).txq =
    if c.txq.length < p.fifoDepth then c.txq ++ [d] else c.txq := by
  unfold Ctrl.pushTx
  split <;> rfl
theorem Ctrl.popRx_rxq : c.popRx.rxq = c.rxq.tail := by
  unfold Ctrl.popRx
  split <;> simp_all

end Sys2Proof.Machine
end

