-- ==== Sys2Proof/Laws/State.lean ====
section
/-! SUPPORT. One lemma per field per update of the state, so that no proof unfolds a record update. -/

namespace Sys2Proof.Machine

variable (s : State)

/-! ## `State.setCtrl` -/

@[simp] theorem State.setCtrl_cfg (h : Handle) (c : Ctrl) : (s.setCtrl h c).cfg = s.cfg := rfl
@[simp] theorem State.setCtrl_ctrl (h : Handle) (c : Ctrl) : (s.setCtrl h c).ctrl = s.ctrl.set h c := rfl
@[simp] theorem State.setCtrl_eng (h : Handle) (c : Ctrl) : (s.setCtrl h c).eng = s.eng := rfl
@[simp] theorem State.setCtrl_tmr (h : Handle) (c : Ctrl) : (s.setCtrl h c).tmr = s.tmr := rfl
@[simp] theorem State.setCtrl_now (h : Handle) (c : Ctrl) : (s.setCtrl h c).now = s.now := rfl
@[simp] theorem State.setCtrl_faults (h : Handle) (c : Ctrl) : (s.setCtrl h c).faults = s.faults := rfl
@[simp] theorem State.setCtrl_refusal (h : Handle) (c : Ctrl) : (s.setCtrl h c).refusal = s.refusal := rfl
@[simp] theorem State.setCtrl_results (h : Handle) (c : Ctrl) : (s.setCtrl h c).results = s.results := rfl
@[simp] theorem State.setCtrl_actor (h : Handle) (c : Ctrl) : (s.setCtrl h c).actor = s.actor := rfl
@[simp] theorem State.setCtrl_rdata (h : Handle) (c : Ctrl) : (s.setCtrl h c).rdata = s.rdata := rfl
@[simp] theorem State.setCtrl_agenda (h : Handle) (c : Ctrl) : (s.setCtrl h c).agenda = s.agenda := rfl
@[simp] theorem State.setCtrl_turnIx (h : Handle) (c : Ctrl) : (s.setCtrl h c).turnIx = s.turnIx := rfl
@[simp] theorem State.setCtrl_script (h : Handle) (c : Ctrl) : (s.setCtrl h c).script = s.script := rfl
@[simp] theorem State.setCtrl_drawIx (h : Handle) (c : Ctrl) : (s.setCtrl h c).drawIx = s.drawIx := rfl

/-! ## `State.setEng` -/

@[simp] theorem State.setEng_cfg (h : Handle) (e : Engine) : (s.setEng h e).cfg = s.cfg := rfl
@[simp] theorem State.setEng_ctrl (h : Handle) (e : Engine) : (s.setEng h e).ctrl = s.ctrl := rfl
@[simp] theorem State.setEng_eng (h : Handle) (e : Engine) : (s.setEng h e).eng = s.eng.set h e := rfl
@[simp] theorem State.setEng_tmr (h : Handle) (e : Engine) : (s.setEng h e).tmr = s.tmr := rfl
@[simp] theorem State.setEng_now (h : Handle) (e : Engine) : (s.setEng h e).now = s.now := rfl
@[simp] theorem State.setEng_faults (h : Handle) (e : Engine) : (s.setEng h e).faults = s.faults := rfl
@[simp] theorem State.setEng_refusal (h : Handle) (e : Engine) : (s.setEng h e).refusal = s.refusal := rfl
@[simp] theorem State.setEng_results (h : Handle) (e : Engine) : (s.setEng h e).results = s.results := rfl
@[simp] theorem State.setEng_actor (h : Handle) (e : Engine) : (s.setEng h e).actor = s.actor := rfl
@[simp] theorem State.setEng_rdata (h : Handle) (e : Engine) : (s.setEng h e).rdata = s.rdata := rfl
@[simp] theorem State.setEng_agenda (h : Handle) (e : Engine) : (s.setEng h e).agenda = s.agenda := rfl
@[simp] theorem State.setEng_turnIx (h : Handle) (e : Engine) : (s.setEng h e).turnIx = s.turnIx := rfl
@[simp] theorem State.setEng_script (h : Handle) (e : Engine) : (s.setEng h e).script = s.script := rfl
@[simp] theorem State.setEng_drawIx (h : Handle) (e : Engine) : (s.setEng h e).drawIx = s.drawIx := rfl

/-! ## `State.as` -/

@[simp] theorem State.as_cfg (a : Config.Agent) : (s.as a).cfg = s.cfg := rfl
@[simp] theorem State.as_ctrl (a : Config.Agent) : (s.as a).ctrl = s.ctrl := rfl
@[simp] theorem State.as_eng (a : Config.Agent) : (s.as a).eng = s.eng := rfl
@[simp] theorem State.as_tmr (a : Config.Agent) : (s.as a).tmr = s.tmr := rfl
@[simp] theorem State.as_now (a : Config.Agent) : (s.as a).now = s.now := rfl
@[simp] theorem State.as_faults (a : Config.Agent) : (s.as a).faults = s.faults := rfl
@[simp] theorem State.as_refusal (a : Config.Agent) : (s.as a).refusal = s.refusal := rfl
@[simp] theorem State.as_results (a : Config.Agent) : (s.as a).results = s.results := rfl
@[simp] theorem State.as_actor (a : Config.Agent) : (s.as a).actor = a := rfl
@[simp] theorem State.as_rdata (a : Config.Agent) : (s.as a).rdata = s.rdata := rfl
@[simp] theorem State.as_agenda (a : Config.Agent) : (s.as a).agenda = s.agenda := rfl
@[simp] theorem State.as_turnIx (a : Config.Agent) : (s.as a).turnIx = s.turnIx := rfl
@[simp] theorem State.as_script (a : Config.Agent) : (s.as a).script = s.script := rfl
@[simp] theorem State.as_drawIx (a : Config.Agent) : (s.as a).drawIx = s.drawIx := rfl

/-! ## `State.returnRead` -/

@[simp] theorem State.returnRead_cfg (v : Word) : (s.returnRead v).cfg = s.cfg := rfl
@[simp] theorem State.returnRead_ctrl (v : Word) : (s.returnRead v).ctrl = s.ctrl := rfl
@[simp] theorem State.returnRead_eng (v : Word) : (s.returnRead v).eng = s.eng := rfl
@[simp] theorem State.returnRead_tmr (v : Word) : (s.returnRead v).tmr = s.tmr := rfl
@[simp] theorem State.returnRead_now (v : Word) : (s.returnRead v).now = s.now := rfl
@[simp] theorem State.returnRead_faults (v : Word) : (s.returnRead v).faults = s.faults := rfl
@[simp] theorem State.returnRead_refusal (v : Word) : (s.returnRead v).refusal = s.refusal := rfl
@[simp] theorem State.returnRead_results (v : Word) : (s.returnRead v).results = s.results := rfl
@[simp] theorem State.returnRead_actor (v : Word) : (s.returnRead v).actor = s.actor := rfl
@[simp] theorem State.returnRead_rdata (v : Word) : (s.returnRead v).rdata = v := rfl
@[simp] theorem State.returnRead_agenda (v : Word) : (s.returnRead v).agenda = s.agenda := rfl
@[simp] theorem State.returnRead_turnIx (v : Word) : (s.returnRead v).turnIx = s.turnIx := rfl
@[simp] theorem State.returnRead_script (v : Word) : (s.returnRead v).script = s.script := rfl
@[simp] theorem State.returnRead_drawIx (v : Word) : (s.returnRead v).drawIx = s.drawIx := rfl

/-! ## `State.refuse` -/

@[simp] theorem State.refuse_cfg (r : Refusal) : (s.refuse r).cfg = s.cfg := rfl
@[simp] theorem State.refuse_ctrl (r : Refusal) : (s.refuse r).ctrl = s.ctrl := rfl
@[simp] theorem State.refuse_eng (r : Refusal) : (s.refuse r).eng = s.eng := rfl
@[simp] theorem State.refuse_tmr (r : Refusal) : (s.refuse r).tmr = s.tmr := rfl
@[simp] theorem State.refuse_now (r : Refusal) : (s.refuse r).now = s.now := rfl
@[simp] theorem State.refuse_faults (r : Refusal) : (s.refuse r).faults = s.faults := rfl
@[simp] theorem State.refuse_refusal (r : Refusal) : (s.refuse r).refusal = some (s.refusal.getD r) := rfl
@[simp] theorem State.refuse_results (r : Refusal) : (s.refuse r).results = s.results := rfl
@[simp] theorem State.refuse_actor (r : Refusal) : (s.refuse r).actor = s.actor := rfl
@[simp] theorem State.refuse_rdata (r : Refusal) : (s.refuse r).rdata = s.rdata := rfl
@[simp] theorem State.refuse_agenda (r : Refusal) : (s.refuse r).agenda = s.agenda := rfl
@[simp] theorem State.refuse_turnIx (r : Refusal) : (s.refuse r).turnIx = s.turnIx := rfl
@[simp] theorem State.refuse_script (r : Refusal) : (s.refuse r).script = s.script := rfl
@[simp] theorem State.refuse_drawIx (r : Refusal) : (s.refuse r).drawIx = s.drawIx := rfl

/-! ## `State.hand` -/

@[simp] theorem State.hand_cfg (h : Handle) (r : Result) : (s.hand h r).cfg = s.cfg := rfl
@[simp] theorem State.hand_ctrl (h : Handle) (r : Result) : (s.hand h r).ctrl = s.ctrl := rfl
@[simp] theorem State.hand_eng (h : Handle) (r : Result) : (s.hand h r).eng = s.eng := rfl
@[simp] theorem State.hand_tmr (h : Handle) (r : Result) : (s.hand h r).tmr = s.tmr := rfl
@[simp] theorem State.hand_now (h : Handle) (r : Result) : (s.hand h r).now = s.now := rfl
@[simp] theorem State.hand_faults (h : Handle) (r : Result) : (s.hand h r).faults = s.faults := rfl
@[simp] theorem State.hand_refusal (h : Handle) (r : Result) : (s.hand h r).refusal = s.refusal := rfl
@[simp] theorem State.hand_results (h : Handle) (r : Result) : (s.hand h r).results = s.results ++ [(h, r)] := rfl
@[simp] theorem State.hand_actor (h : Handle) (r : Result) : (s.hand h r).actor = s.actor := rfl
@[simp] theorem State.hand_rdata (h : Handle) (r : Result) : (s.hand h r).rdata = s.rdata := rfl
@[simp] theorem State.hand_agenda (h : Handle) (r : Result) : (s.hand h r).agenda = s.agenda := rfl
@[simp] theorem State.hand_turnIx (h : Handle) (r : Result) : (s.hand h r).turnIx = s.turnIx := rfl
@[simp] theorem State.hand_script (h : Handle) (r : Result) : (s.hand h r).script = s.script := rfl
@[simp] theorem State.hand_drawIx (h : Handle) (r : Result) : (s.hand h r).drawIx = s.drawIx := rfl

/-! ## `State.afterDraw`: only the source of draws changes -/

@[simp] theorem State.afterDraw_cfg : (s.afterDraw).cfg = s.cfg := by
  unfold State.afterDraw; split <;> rfl
@[simp] theorem State.afterDraw_ctrl : (s.afterDraw).ctrl = s.ctrl := by
  unfold State.afterDraw; split <;> rfl
@[simp] theorem State.afterDraw_eng : (s.afterDraw).eng = s.eng := by
  unfold State.afterDraw; split <;> rfl
@[simp] theorem State.afterDraw_tmr : (s.afterDraw).tmr = s.tmr := by
  unfold State.afterDraw; split <;> rfl
@[simp] theorem State.afterDraw_now : (s.afterDraw).now = s.now := by
  unfold State.afterDraw; split <;> rfl
@[simp] theorem State.afterDraw_faults : (s.afterDraw).faults = s.faults := by
  unfold State.afterDraw; split <;> rfl
@[simp] theorem State.afterDraw_refusal : (s.afterDraw).refusal = s.refusal := by
  unfold State.afterDraw; split <;> rfl
@[simp] theorem State.afterDraw_results : (s.afterDraw).results = s.results := by
  unfold State.afterDraw; split <;> rfl
@[simp] theorem State.afterDraw_actor : (s.afterDraw).actor = s.actor := by
  unfold State.afterDraw; split <;> rfl
@[simp] theorem State.afterDraw_rdata : (s.afterDraw).rdata = s.rdata := by
  unfold State.afterDraw; split <;> rfl
@[simp] theorem State.afterDraw_agenda : (s.afterDraw).agenda = s.agenda := by
  unfold State.afterDraw; split <;> rfl
@[simp] theorem State.afterDraw_turnIx : (s.afterDraw).turnIx = s.turnIx := by
  unfold State.afterDraw; split <;> rfl

/-! ## `State.afterTurn`: only the source of turns changes -/

@[simp] theorem State.afterTurn_cfg : (s.afterTurn).cfg = s.cfg := by
  unfold State.afterTurn; split <;> rfl
@[simp] theorem State.afterTurn_ctrl : (s.afterTurn).ctrl = s.ctrl := by
  unfold State.afterTurn; split <;> rfl
@[simp] theorem State.afterTurn_eng : (s.afterTurn).eng = s.eng := by
  unfold State.afterTurn; split <;> rfl
@[simp] theorem State.afterTurn_tmr : (s.afterTurn).tmr = s.tmr := by
  unfold State.afterTurn; split <;> rfl
@[simp] theorem State.afterTurn_now : (s.afterTurn).now = s.now := by
  unfold State.afterTurn; split <;> rfl
@[simp] theorem State.afterTurn_faults : (s.afterTurn).faults = s.faults := by
  unfold State.afterTurn; split <;> rfl
@[simp] theorem State.afterTurn_refusal : (s.afterTurn).refusal = s.refusal := by
  unfold State.afterTurn; split <;> rfl
@[simp] theorem State.afterTurn_results : (s.afterTurn).results = s.results := by
  unfold State.afterTurn; split <;> rfl
@[simp] theorem State.afterTurn_actor : (s.afterTurn).actor = s.actor := by
  unfold State.afterTurn; split <;> rfl
@[simp] theorem State.afterTurn_rdata : (s.afterTurn).rdata = s.rdata := by
  unfold State.afterTurn; split <;> rfl
@[simp] theorem State.afterTurn_script : (s.afterTurn).script = s.script := by
  unfold State.afterTurn; split <;> rfl
@[simp] theorem State.afterTurn_drawIx : (s.afterTurn).drawIx = s.drawIx := by
  unfold State.afterTurn; split <;> rfl

/-! ## `State.raiseAs`: only the fault set changes -/

@[simp] theorem State.raiseAs_cfg (a : Config.Agent) (f : Fault) : (s.raiseAs a f).cfg = s.cfg := by
  unfold State.raiseAs; split <;> rfl
@[simp] theorem State.raiseAs_ctrl (a : Config.Agent) (f : Fault) : (s.raiseAs a f).ctrl = s.ctrl := by
  unfold State.raiseAs; split <;> rfl
@[simp] theorem State.raiseAs_eng (a : Config.Agent) (f : Fault) : (s.raiseAs a f).eng = s.eng := by
  unfold State.raiseAs; split <;> rfl
@[simp] theorem State.raiseAs_tmr (a : Config.Agent) (f : Fault) : (s.raiseAs a f).tmr = s.tmr := by
  unfold State.raiseAs; split <;> rfl
@[simp] theorem State.raiseAs_now (a : Config.Agent) (f : Fault) : (s.raiseAs a f).now = s.now := by
  unfold State.raiseAs; split <;> rfl
@[simp] theorem State.raiseAs_refusal (a : Config.Agent) (f : Fault) : (s.raiseAs a f).refusal = s.refusal := by
  unfold State.raiseAs; split <;> rfl
@[simp] theorem State.raiseAs_results (a : Config.Agent) (f : Fault) : (s.raiseAs a f).results = s.results := by
  unfold State.raiseAs; split <;> rfl
@[simp] theorem State.raiseAs_actor (a : Config.Agent) (f : Fault) : (s.raiseAs a f).actor = s.actor := by
  unfold State.raiseAs; split <;> rfl
@[simp] theorem State.raiseAs_rdata (a : Config.Agent) (f : Fault) : (s.raiseAs a f).rdata = s.rdata := by
  unfold State.raiseAs; split <;> rfl
@[simp] theorem State.raiseAs_agenda (a : Config.Agent) (f : Fault) : (s.raiseAs a f).agenda = s.agenda := by
  unfold State.raiseAs; split <;> rfl
@[simp] theorem State.raiseAs_turnIx (a : Config.Agent) (f : Fault) : (s.raiseAs a f).turnIx = s.turnIx := by
  unfold State.raiseAs; split <;> rfl
@[simp] theorem State.raiseAs_script (a : Config.Agent) (f : Fault) : (s.raiseAs a f).script = s.script := by
  unfold State.raiseAs; split <;> rfl
@[simp] theorem State.raiseAs_drawIx (a : Config.Agent) (f : Fault) : (s.raiseAs a f).drawIx = s.drawIx := by
  unfold State.raiseAs; split <;> rfl

/-! ## `State.raise` -/

@[simp] theorem State.raise_cfg (f : Fault) : (s.raise f).cfg = s.cfg := by
  simp [State.raise]
@[simp] theorem State.raise_ctrl (f : Fault) : (s.raise f).ctrl = s.ctrl := by
  simp [State.raise]
@[simp] theorem State.raise_eng (f : Fault) : (s.raise f).eng = s.eng := by
  simp [State.raise]
@[simp] theorem State.raise_tmr (f : Fault) : (s.raise f).tmr = s.tmr := by
  simp [State.raise]
@[simp] theorem State.raise_now (f : Fault) : (s.raise f).now = s.now := by
  simp [State.raise]
@[simp] theorem State.raise_refusal (f : Fault) : (s.raise f).refusal = s.refusal := by
  simp [State.raise]
@[simp] theorem State.raise_results (f : Fault) : (s.raise f).results = s.results := by
  simp [State.raise]
@[simp] theorem State.raise_actor (f : Fault) : (s.raise f).actor = s.actor := by
  simp [State.raise]
@[simp] theorem State.raise_rdata (f : Fault) : (s.raise f).rdata = s.rdata := by
  simp [State.raise]
@[simp] theorem State.raise_agenda (f : Fault) : (s.raise f).agenda = s.agenda := by
  simp [State.raise]
@[simp] theorem State.raise_turnIx (f : Fault) : (s.raise f).turnIx = s.turnIx := by
  simp [State.raise]
@[simp] theorem State.raise_script (f : Fault) : (s.raise f).script = s.script := by
  simp [State.raise]
@[simp] theorem State.raise_drawIx (f : Fault) : (s.raise f).drawIx = s.drawIx := by
  simp [State.raise]

/-! ## `State.begin`: the turn is taken off and the agent is set -/

@[simp] theorem State.begin_cfg : s.begin.cfg = s.cfg := by
  simp [State.begin]
@[simp] theorem State.begin_ctrl : s.begin.ctrl = s.ctrl := by
  simp [State.begin]
@[simp] theorem State.begin_eng : s.begin.eng = s.eng := by
  simp [State.begin]
@[simp] theorem State.begin_tmr : s.begin.tmr = s.tmr := by
  simp [State.begin]
@[simp] theorem State.begin_now : s.begin.now = s.now := by
  simp [State.begin]
@[simp] theorem State.begin_faults : s.begin.faults = s.faults := by
  simp [State.begin]
@[simp] theorem State.begin_refusal : s.begin.refusal = s.refusal := by
  simp [State.begin]
@[simp] theorem State.begin_results : s.begin.results = s.results := by
  simp [State.begin]
@[simp] theorem State.begin_actor : s.begin.actor = turnAgent s.turn := by
  simp [State.begin]
@[simp] theorem State.begin_rdata : s.begin.rdata = s.rdata := by
  simp [State.begin]
@[simp] theorem State.begin_script : s.begin.script = s.script := by
  simp [State.begin]
@[simp] theorem State.begin_drawIx : s.begin.drawIx = s.drawIx := by
  simp [State.begin]

/-! ## `State.finish`: the result is handed over and the engine is free -/

@[simp] theorem State.finish_cfg (h : Handle) (r : Result) : (s.finish h r).cfg = s.cfg := rfl
@[simp] theorem State.finish_ctrl (h : Handle) (r : Result) : (s.finish h r).ctrl = s.ctrl := rfl
@[simp] theorem State.finish_tmr (h : Handle) (r : Result) : (s.finish h r).tmr = s.tmr := rfl
@[simp] theorem State.finish_now (h : Handle) (r : Result) : (s.finish h r).now = s.now := rfl
@[simp] theorem State.finish_faults (h : Handle) (r : Result) : (s.finish h r).faults = s.faults := rfl
@[simp] theorem State.finish_refusal (h : Handle) (r : Result) : (s.finish h r).refusal = s.refusal := rfl
@[simp] theorem State.finish_actor (h : Handle) (r : Result) : (s.finish h r).actor = s.actor := rfl
@[simp] theorem State.finish_rdata (h : Handle) (r : Result) : (s.finish h r).rdata = s.rdata := rfl
@[simp] theorem State.finish_agenda (h : Handle) (r : Result) : (s.finish h r).agenda = s.agenda := rfl
@[simp] theorem State.finish_turnIx (h : Handle) (r : Result) : (s.finish h r).turnIx = s.turnIx := rfl
@[simp] theorem State.finish_script (h : Handle) (r : Result) : (s.finish h r).script = s.script := rfl
@[simp] theorem State.finish_drawIx (h : Handle) (r : Result) : (s.finish h r).drawIx = s.drawIx := rfl
@[simp] theorem State.finish_eng (h : Handle) (r : Result) :
    (s.finish h r).eng = s.eng.set h { s.eng.get h with result := some r, busyCmd := false } := rfl
@[simp] theorem State.finish_results (h : Handle) (r : Result) :
    (s.finish h r).results = s.results ++ [(h, r)] := rfl

/-! ## What is read of the state through the updates -/

@[simp] theorem State.halted_setCtrl (a : Config.Agent) (h : Handle) (c : Ctrl) :
    (s.setCtrl h c).halted a = s.halted a := rfl
@[simp] theorem State.halted_setEng (a : Config.Agent) (h : Handle) (e : Engine) :
    (s.setEng h e).halted a = s.halted a := rfl
@[simp] theorem State.halted_as (a b : Config.Agent) : (s.as b).halted a = s.halted a := rfl
@[simp] theorem State.halted_returnRead (a : Config.Agent) (v : Word) :
    (s.returnRead v).halted a = s.halted a := rfl
@[simp] theorem State.halted_refuse (a : Config.Agent) (r : Refusal) : (s.refuse r).halted a = s.halted a := rfl
@[simp] theorem State.halted_hand (a : Config.Agent) (h : Handle) (r : Result) :
    (s.hand h r).halted a = s.halted a := rfl
@[simp] theorem State.halted_afterDraw (a : Config.Agent) : s.afterDraw.halted a = s.halted a := by
  simp [State.halted]
@[simp] theorem State.halted_afterTurn (a : Config.Agent) : s.afterTurn.halted a = s.halted a := by
  simp [State.halted]
@[simp] theorem State.halted_begin (a : Config.Agent) : s.begin.halted a = s.halted a := by
  simp [State.halted]

/-- Raising a fault adds it to the fault set and removes none (R44, R213). -/
theorem State.mem_raiseAs_faults (a : Config.Agent) (f : Fault) (r : FaultRecord) :
    r ∈ (s.raiseAs a f).faults ↔ r ∈ s.faults ∨ r = ⟨a, f⟩ := by
  unfold State.raiseAs
  split <;> simp_all

/-- The agent that raised a fault is halted (R213). -/
@[simp] theorem State.halted_raiseAs_self (a : Config.Agent) (f : Fault) : (s.raiseAs a f).halted a = true := by
  simp only [State.halted, List.any_eq_true, beq_iff_eq]
  exact ⟨⟨a, f⟩, (s.mem_raiseAs_faults a f _).2 (.inr rfl), rfl⟩

@[simp] theorem State.halted_raise_self (f : Fault) : (s.raise f).halted s.actor = true :=
  s.halted_raiseAs_self _ _

end Sys2Proof.Machine
end

