-- ==== Sys2Proof/Laws/Ops.lean ====
section
/-! SUPPORT. What a bus access, a turn and a step can do, said once (one inversion lemma per shared operation). -/

namespace Sys2Proof.Machine

open Sys2Proof.Config (Params Agent Turn)

/-! ## Ownership -/

theorem State.mayAccess_engine (s : State) (h : Handle) (ha : s.actor = .engine h) : s.mayAccess h = true := by
  simp [State.mayAccess, ha]

theorem accessCtrl_of_mayAccess {h : Handle} {s : State} (k : Ctrl → Out) (ho : s.mayAccess h = true) :
    accessCtrl h s k = k (s.ctrl.get h) := by
  simp [accessCtrl, ho]

theorem accessCtrl_refuses {h : Handle} {s : State} (k : Ctrl → Out) (ho : s.mayAccess h = false) :
    accessCtrl h s k = .next (s.refuse (.ownershipViolation h)) := by
  simp [accessCtrl, ho]

/-! ## What an access can do to its controller -/

/-- The change a bus access of a controller makes to it, with the conditions under which it makes it. -/
inductive CtrlChange (p : Params) (now : Nat) (c : Ctrl) : Ctrl → Prop where
  | same : CtrlChange p now c c
  | closeStale : CtrlChange p now c (c.closeStale now)
  | store (d : Word) : c.busy = false → CtrlChange p now c (c.setCommand1 p d)
  | configure (d : Word) : c.busy = false → pioBit p d = false →
      CtrlChange p now c ((c.setCommand1 p d).touch now)
  | start (d : Word) : c.busy = false → pioBit p d = true → c.flushTx = false → c.flushRx = false →
      checkConfig p (storeCommand1 p d) = none →
      CtrlChange p now c (((c.setCommand1 p d).start p now).touch now)
  | clearRdy (d : Word) : CtrlChange p now c ((c.clearRdy p d).touch now)
  | fifoStatus (d : Word) : (asksFlush p d && c.busy) = false →
      CtrlChange p now c (((c.clearErrors p d).startFlush p d).touch now)
  | blkSize (d : Word) : c.busy = false → CtrlChange p now c ((c.setBlkSize p d).touch now)
  | pushTx (d : Word) : c.flushTx = false → CtrlChange p now c ((c.touch now).pushTx p d)
  | popRx : c.flushRx = false → CtrlChange p now c c.popRx

/-- What an instruction leaves alone whatever it is: the parameters, time, the counter's offset, the turns, and every fault
already recorded. -/
structure Kept (s t : State) : Prop where
  cfg : t.cfg = s.cfg
  now : t.now = s.now
  cntr0 : t.tmr.cntr0 = s.tmr.cntr0
  actor : t.actor = s.actor
  agenda : t.agenda = s.agenda
  turnIx : t.turnIx = s.turnIx
  faults : ∀ r ∈ s.faults, r ∈ t.faults
  nodup : s.faults.Nodup → t.faults.Nodup

/-- What a bus access of controller `h` does: it changes that controller and nothing of another, of an engine, of the Time
Base or of the results. -/
structure AccessEffect (h : Handle) (s t : State) : Prop extends Kept s t where
  ctrl : ∃ c, t.ctrl = s.ctrl.set h c ∧ CtrlChange s.cfg s.now (s.ctrl.get h) c
  eng : t.eng = s.eng
  tmr : t.tmr = s.tmr
  results : t.results = s.results

theorem State.nodup_raiseAs (s : State) (a : Agent) (f : Fault) (hn : s.faults.Nodup) :
    (s.raiseAs a f).faults.Nodup := by
  unfold State.raiseAs
  split
  · exact hn
  · rename_i hm
    exact List.Nodup.append hn (by simp) (by simpa using hm)

theorem Kept.refl (s : State) : Kept s s := ⟨rfl, rfl, rfl, rfl, rfl, rfl, fun _ h => h, id⟩

theorem AccessEffect.refuse (h : Handle) (s : State) (r : Refusal) : AccessEffect h s (s.refuse r) where
  toKept := ⟨rfl, rfl, rfl, rfl, rfl, rfl, fun _ h => h, id⟩
  ctrl := ⟨_, by simp, .same⟩
  eng := rfl
  tmr := rfl
  results := rfl

theorem AccessEffect.raise (h : Handle) (s : State) (f : Fault) : AccessEffect h s (s.raise f) where
  toKept := ⟨by simp, by simp, by simp, by simp, by simp, by simp,
    fun r hr => (s.mem_raiseAs_faults _ _ r).2 (.inl hr), s.nodup_raiseAs _ _⟩
  ctrl := ⟨_, by simp, .same⟩
  eng := by simp
  tmr := by simp
  results := by simp

theorem AccessEffect.setCtrl {h : Handle} {s : State} {c : Ctrl} (hc : CtrlChange s.cfg s.now (s.ctrl.get h) c) :
    AccessEffect h s (s.setCtrl h c) where
  toKept := ⟨rfl, rfl, rfl, rfl, rfl, rfl, fun _ h => h, id⟩
  ctrl := ⟨c, rfl, hc⟩
  eng := rfl
  tmr := rfl
  results := rfl

theorem AccessEffect.read (h : Handle) (s : State) (v : Word) : AccessEffect h s (s.afterDraw.returnRead v) where
  toKept := ⟨by simp, by simp, by simp, by simp, by simp, by simp, fun r hr => by simpa using hr, fun hn => by simpa using hn⟩
  ctrl := ⟨_, by simp, .same⟩
  eng := by simp
  tmr := by simp
  results := by simp

theorem AccessEffect.readSet {h : Handle} {s : State} {c : Ctrl} (v : Word)
    (hc : CtrlChange s.cfg s.now (s.ctrl.get h) c) : AccessEffect h s ((s.setCtrl h c).returnRead v) where
  toKept := ⟨rfl, rfl, rfl, rfl, rfl, rfl, fun _ h => h, id⟩
  ctrl := ⟨c, rfl, hc⟩
  eng := rfl
  tmr := rfl
  results := rfl

theorem AccessEffect.drawSet {h : Handle} {s : State} {c : Ctrl} (v : Word)
    (hc : CtrlChange s.cfg s.now (s.ctrl.get h) c) :
    AccessEffect h s ((s.afterDraw.setCtrl h c).returnRead v) where
  toKept := ⟨by simp, by simp, by simp, by simp, by simp, by simp, fun r hr => by simpa using hr, fun hn => by simpa using hn⟩
  ctrl := ⟨c, by simp, hc⟩
  eng := by simp
  tmr := by simp
  results := by simp

/-- An access, through the ownership check. -/
theorem AccessEffect.accessCtrl {h : Handle} {s t : State} {k : Ctrl → Out}
    (hk : ∀ u, k (s.ctrl.get h) = .next u → AccessEffect h s u) (ht : accessCtrl h s k = .next t) :
    AccessEffect h s t := by
  unfold Machine.accessCtrl at ht
  split at ht
  · exact hk t ht
  · cases ht
    exact .refuse h s _

/-- The start of a transfer, from a controller whose fields a trigger write has just stored. -/
theorem startTransfer_effect (h : Handle) (s : State) (d : Word) (hb : (s.ctrl.get h).busy = false)
    (hd : pioBit s.cfg d = true) :
    AccessEffect h s (startTransfer h (s.setCtrl h ((s.ctrl.get h).setCommand1 s.cfg d))) := by
  have hst := AccessEffect.setCtrl (h := h) (s := s) (.store d hb)
  unfold startTransfer
  simp only [State.setCtrl_ctrl, PerHandle.get_set_self, State.setCtrl_cfg, State.setCtrl_now]
  split
  · have hr := AccessEffect.raise h (s.setCtrl h ((s.ctrl.get h).setCommand1 s.cfg d)) (.hazardSettle h)
    exact { hst with
      cfg := hr.cfg, now := hr.now, cntr0 := hr.cntr0, actor := hr.actor, agenda := hr.agenda, turnIx := hr.turnIx
      faults := fun r h => hr.faults r (hst.faults r h), nodup := fun h => hr.nodup (hst.nodup h)
      ctrl := by simpa using hst.ctrl, eng := hr.eng, tmr := hr.tmr, results := hr.results }
  · split
    · have hr := AccessEffect.raise h (s.setCtrl h ((s.ctrl.get h).setCommand1 s.cfg d))
        (.triggerDuringFlush h)
      exact { hst with
        cfg := hr.cfg, now := hr.now, cntr0 := hr.cntr0, actor := hr.actor, agenda := hr.agenda, turnIx := hr.turnIx
        faults := fun r h => hr.faults r (hst.faults r h), nodup := fun h => hr.nodup (hst.nodup h)
        ctrl := by simpa using hst.ctrl, eng := hr.eng, tmr := hr.tmr, results := hr.results }
    · rename_i hf
      split
      · exact { hst with ctrl := by simpa using hst.ctrl }
      · rename_i hcheck
        simp only [Bool.or_eq_true, not_or, Bool.not_eq_true] at hf
        have := AccessEffect.setCtrl (h := h) (s := s) (.start d hb hd hf.1 hf.2 hcheck)
        exact { this with ctrl := by simpa [State.setCtrl] using this.ctrl }

/-- Every bus access of a controller has such an effect. -/
theorem exec_access_effect {i : Instr} {h : Handle} {s t : State} (hi : accessedCtrl i = some h)
    (ht : exec i s = .next t) : AccessEffect h s t := by
  cases i <;> simp only [accessedCtrl, Option.some.injEq, reduceCtorEq] at hi <;> subst hi <;>
    simp only [exec, execRdCommand1, execWrCommand1, execRdTransStatus, execWrTransStatus, execRdFifoStatus,
      execWrFifoStatus, execRdBlkSize, execWrBlkSize, execWrTxFifo, execRdRxFifo] at ht
  case rdCommand1 =>
    refine .accessCtrl (fun u hu => ?_) ht
    cases hu
    exact .drawSet _ .closeStale
  case wrCommand1 h d =>
    refine .accessCtrl (fun u hu => ?_) ht
    split at hu
    · cases hu; exact .raise _ _ _
    · rename_i hb
      simp only [Bool.not_eq_true] at hb
      split at hu
      · rename_i hd; cases hu; exact startTransfer_effect _ s d hb hd
      · rename_i hd; cases hu; exact .setCtrl (.configure d hb (by simpa using hd))
  case rdTransStatus => exact .accessCtrl (fun u hu => by cases hu; exact .read _ _ _) ht
  case wrTransStatus h d => exact .accessCtrl (fun u hu => by cases hu; exact .setCtrl (.clearRdy d)) ht
  case rdFifoStatus => exact .accessCtrl (fun u hu => by cases hu; exact .read _ _ _) ht
  case wrFifoStatus h d =>
    refine .accessCtrl (fun u hu => ?_) ht
    split at hu
    · cases hu; exact .raise _ _ _
    · rename_i hb; cases hu; exact .setCtrl (.fifoStatus d (by simpa using hb))
  case rdBlkSize => exact .accessCtrl (fun u hu => by cases hu; exact .read _ _ _) ht
  case wrBlkSize h d =>
    refine .accessCtrl (fun u hu => ?_) ht
    split at hu
    · cases hu; exact .raise _ _ _
    · rename_i hb; cases hu; exact .setCtrl (.blkSize d (by simpa using hb))
  case wrTxFifo h d =>
    refine .accessCtrl (fun u hu => ?_) ht
    split at hu
    · cases hu; exact .raise _ _ _
    · rename_i hb; cases hu; exact .setCtrl (.pushTx d (by simpa using hb))
  case rdRxFifo =>
    refine .accessCtrl (fun u hu => ?_) ht
    split at hu
    · cases hu; exact .raise _ _ _
    · rename_i hb
      cases hu
      have hx : CtrlChange s.cfg s.now (s.ctrl.get _) (s.ctrl.get _).popRx := .popRx (by simpa using hb)
      split
      · exact .drawSet _ hx
      · exact .readSet _ hx

/-- Every instruction answers a next state: a fault and a refusal are recorded in it (R213, R214). -/
theorem exec_next (i : Instr) (s : State) : ∃ t, exec i s = .next t := by
  cases i <;> simp only [exec, execRdCommand1, execWrCommand1, execRdTransStatus, execWrTransStatus, execRdFifoStatus,
    execWrFifoStatus, execRdBlkSize, execWrBlkSize, execWrTxFifo, execRdRxFifo, execRdTmrCntr1us, execWrTmrCntr1us,
    execRdTmrUsecCfg, execWrTmrUsecCfg, execRdTmrCntrFreeze, execWrTmrCntrFreeze, execInit, execFlushFifos, execSend,
    execReceive, accessCtrl] <;>
    first
    | exact ⟨_, rfl⟩
    | (split <;> first | exact ⟨_, rfl⟩ | (split <;> first | exact ⟨_, rfl⟩ | (split <;> exact ⟨_, rfl⟩)))

end Sys2Proof.Machine
end

