-- ==== Sys2Proof/Laws/PerInstr.lean ====
section
/-! SUPPORT. The family `Spelled`: the words of an instruction at the default offsets match the row of the opcode table that
bears its mnemonic, and no row of the other format is asked (30_encoding R86, R88, R89). -/

namespace Sys2Proof.Laws

/-- The bits of a command word below its LEN do not depend on LEN. -/
theorem cmdWord_low (op : BitVec 2) (h : Handle) (len : BitVec 16) :
    (cmdWord op h len).extractLsb' 0 16 = (0 : BitVec 12) ++ h.toBits ++ op := by
  simp only [cmdWord]
  apply BitVec.eq_of_getLsbD_eq
  intro i hi
  simp only [BitVec.getLsbD_extractLsb', BitVec.getLsbD_append, Nat.zero_add, hi, decide_true, Bool.true_and]
  have : i - 2 - 2 < 12 := by omega
  simp [this]

/-- A word whose low half differs from the row's under the mask does not fit it. -/
theorem not_fits_of_low (r : TableRow 32) (c : Word)
    (h : (c.extractLsb' 0 16 &&& r.mask.extractLsb' 0 16) ≠ r.pattern.extractLsb' 0 16) : r.fits c = false := by
  simp only [TableRow.fits, beq_eq_false_iff_ne]
  rintro e
  exact h (by rw [← e, BitVec.extractLsb'_and])

/-- A row that fixes nothing above the low half is decided there. -/
theorem fits_of_low (r : TableRow 32) (c : Word) (hm : r.mask = (r.mask.extractLsb' 0 16).setWidth 32)
    (hp : r.pattern = (r.pattern.extractLsb' 0 16).setWidth 32)
    (h : (c.extractLsb' 0 16 &&& r.mask.extractLsb' 0 16) = r.pattern.extractLsb' 0 16) : r.fits c = true := by
  simp only [TableRow.fits, beq_iff_eq]
  rw [hp, ← h, hm]
  apply BitVec.eq_of_getLsbD_eq
  intro i hi
  by_cases hl : i < 16 <;> simp [hl, hi]

end Sys2Proof.Laws

namespace Sys2Proof.Laws.Spelled

/-- The mnemonic of the row an instruction belongs to (R86, R88). -/
def mnemonic : Instr → String
  | .rdCommand1 _ => "RD.COMMAND1"
  | .wrCommand1 _ _ => "WR.COMMAND1"
  | .rdTransStatus _ => "RD.TRANS_STATUS"
  | .wrTransStatus _ _ => "WR.TRANS_STATUS"
  | .rdFifoStatus _ => "RD.FIFO_STATUS"
  | .wrFifoStatus _ _ => "WR.FIFO_STATUS"
  | .rdBlkSize _ => "RD.BLK_SIZE"
  | .wrBlkSize _ _ => "WR.BLK_SIZE"
  | .wrTxFifo _ _ => "WR.TX_FIFO"
  | .rdRxFifo _ => "RD.RX_FIFO"
  | .rdTmrCntr1us => "RD.TMR_CNTR_1US"
  | .wrTmrCntr1us _ => "WR.TMR_CNTR_1US"
  | .rdTmrUsecCfg => "RD.TMR_USEC_CFG"
  | .wrTmrUsecCfg _ => "WR.TMR_USEC_CFG"
  | .rdTmrCntrFreeze => "RD.TMR_CNTR_FREEZE"
  | .wrTmrCntrFreeze _ => "WR.TMR_CNTR_FREEZE"
  | .init _ => "INIT"
  | .flushFifos _ => "FLUSH_FIFOS"
  | .send _ _ _ => "SEND"
  | .receive _ _ => "RECEIVE"

/-- The mnemonics of the rows some words match: the descriptor rows for an access, the command rows for a command. -/
def rowsOf : Words → List String
  | .acc d _ => (accTable.filter (·.fits d)).map (·.mnemonic)
  | .cmd c _ => (cmdTable.filter (·.fits c)).map (·.mnemonic)

/-- Exactly one row of the table fits the words of the instruction, its own. -/
def Statement (i : Instr) : Prop := rowsOf (encode Config.defaults i) = [mnemonic i]

theorem rdCommand1 (h : Handle) : Statement (.rdCommand1 h) := by cases h <;> rfl
theorem wrCommand1 (h : Handle) (d : Word) : Statement (.wrCommand1 h d) := by cases h <;> rfl
theorem rdTransStatus (h : Handle) : Statement (.rdTransStatus h) := by cases h <;> rfl
theorem wrTransStatus (h : Handle) (d : Word) : Statement (.wrTransStatus h d) := by cases h <;> rfl
theorem rdFifoStatus (h : Handle) : Statement (.rdFifoStatus h) := by cases h <;> rfl
theorem wrFifoStatus (h : Handle) (d : Word) : Statement (.wrFifoStatus h d) := by cases h <;> rfl
theorem rdBlkSize (h : Handle) : Statement (.rdBlkSize h) := by cases h <;> rfl
theorem wrBlkSize (h : Handle) (d : Word) : Statement (.wrBlkSize h d) := by cases h <;> rfl
theorem wrTxFifo (h : Handle) (d : Word) : Statement (.wrTxFifo h d) := by cases h <;> rfl
theorem rdRxFifo (h : Handle) : Statement (.rdRxFifo h) := by cases h <;> rfl
theorem rdTmrCntr1us : Statement .rdTmrCntr1us := rfl
theorem wrTmrCntr1us (d : Word) : Statement (.wrTmrCntr1us d) := rfl
theorem rdTmrUsecCfg : Statement .rdTmrUsecCfg := rfl
theorem wrTmrUsecCfg (d : Word) : Statement (.wrTmrUsecCfg d) := rfl
theorem rdTmrCntrFreeze : Statement .rdTmrCntrFreeze := rfl
theorem wrTmrCntrFreeze (d : Word) : Statement (.wrTmrCntrFreeze d) := rfl
theorem init (h : Handle) : Statement (.init h) := by cases h <;> rfl
theorem flushFifos (h : Handle) : Statement (.flushFifos h) := by cases h <;> rfl

theorem send (h : Handle) (len : BitVec 16) (bytes : List Byte) : Statement (.send h len bytes) := by
  have f0 : (cmdTable[0]).fits (cmdWord 2 h len) = false :=
    not_fits_of_low _ _ (by rw [cmdWord_low]; cases h <;> decide)
  have f1 : (cmdTable[1]).fits (cmdWord 2 h len) = false :=
    not_fits_of_low _ _ (by rw [cmdWord_low]; cases h <;> decide)
  have f2 : (cmdTable[2]).fits (cmdWord 2 h len) = true :=
    fits_of_low _ _ (by decide) (by decide) (by rw [cmdWord_low]; cases h <;> decide)
  have f3 : (cmdTable[3]).fits (cmdWord 2 h len) = false :=
    not_fits_of_low _ _ (by rw [cmdWord_low]; cases h <;> decide)
  show (cmdTable.filter (·.fits (cmdWord 2 h len))).map (·.mnemonic) = ["SEND"]
  simp only [cmdTable, List.getElem_cons_zero, List.getElem_cons_succ] at f0 f1 f2 f3
  simp only [cmdTable, List.filter, f0, f1, f2, f3, List.map]

theorem receive (h : Handle) (len : BitVec 16) : Statement (.receive h len) := by
  have f0 : (cmdTable[0]).fits (cmdWord 3 h len) = false :=
    not_fits_of_low _ _ (by rw [cmdWord_low]; cases h <;> decide)
  have f1 : (cmdTable[1]).fits (cmdWord 3 h len) = false :=
    not_fits_of_low _ _ (by rw [cmdWord_low]; cases h <;> decide)
  have f2 : (cmdTable[2]).fits (cmdWord 3 h len) = false :=
    not_fits_of_low _ _ (by rw [cmdWord_low]; cases h <;> decide)
  have f3 : (cmdTable[3]).fits (cmdWord 3 h len) = true :=
    fits_of_low _ _ (by decide) (by decide) (by rw [cmdWord_low]; cases h <;> decide)
  show (cmdTable.filter (·.fits (cmdWord 3 h len))).map (·.mnemonic) = ["RECEIVE"]
  simp only [cmdTable, List.getElem_cons_zero, List.getElem_cons_succ] at f0 f1 f2 f3
  simp only [cmdTable, List.filter, f0, f1, f2, f3, List.map]

end Sys2Proof.Laws.Spelled
end

