-- ==== Sys2Proof/Laws/Step.lean ====
section
/-! SUPPORT. What an instruction, an engine's step and a machine step can do: the inversion lemmas claims about every step cite. -/

namespace Sys2Proof.Machine

open Sys2Proof.Config (Params Agent Turn)

/-! ## Instructions -/

/-- A Time Base access leaves every controller, every engine and the results alone. -/
structure TimeBaseEffect (s t : State) : Prop extends Kept s t where
  ctrl : t.ctrl = s.ctrl
  eng : t.eng = s.eng
  results : t.results = s.results
  usecCfg : s.tmr.usecCfg = usecCfgOf s.cfg → t.tmr.usecCfg = usecCfgOf s.cfg

/-- A command leaves every controller, the Time Base and every other engine alone. -/
structure CommandEffect (h : Handle) (s t : State) : Prop extends Kept s t where
  ctrl : t.ctrl = s.ctrl
  tmr : t.tmr = s.tmr
  eng : t.eng = s.eng ∨ (s.eng.get h).busyCmd = false ∧ ∃ op n b, t.eng = s.eng.set h
    { s.eng.get h with busyCmd := true, op := op, pc := 1, len := n, txbuf := b } ∧
    (op = .send ∨ op = .receive → (s.eng.get h).initialized = true) ∧
    (op = .receive → 1 ≤ n ∧ n ≤ s.cfg.fifoDepth)

/-- The engine a command is for (R83). -/
def commandEngine : Instr → Option Handle
  | .init h => some h
  | .flushFifos h => some h
  | .send h _ _ => some h
  | .receive h _ => some h
  | _ => none

/-- The Time Base accesses (R222 to R226). -/
theorem exec_timeBase_effect {i : Instr} {s t : State} (hc : accessedCtrl i = none) (hm : commandEngine i = none)
    (ht : exec i s = .next t) : TimeBaseEffect s t := by
  cases i <;> simp only [accessedCtrl, commandEngine, reduceCtorEq] at hc hm <;>
    simp only [exec, execRdTmrCntr1us, execWrTmrCntr1us, execRdTmrUsecCfg, execWrTmrUsecCfg, execRdTmrCntrFreeze,
      execWrTmrCntrFreeze] at ht
  case wrTmrUsecCfg d =>
    split at ht <;> cases ht
    · exact ⟨⟨rfl, rfl, rfl, rfl, rfl, rfl, fun _ h => h, id⟩, rfl, rfl, rfl, id⟩
    · rename_i hd
      exact ⟨⟨rfl, rfl, rfl, rfl, rfl, rfl, fun _ h => h, id⟩, rfl, rfl, rfl, fun _ => by simpa using hd⟩
  all_goals
    cases ht
    refine ⟨⟨?_, ?_, ?_, ?_, ?_, ?_, ?_, ?_⟩, ?_, ?_, ?_, ?_⟩ <;> simp

/-- The commands (R170). -/
theorem exec_command_effect {i : Instr} {h : Handle} {s t : State} (hm : commandEngine i = some h)
    (ht : exec i s = .next t) : CommandEffect h s t := by
  have refused : ∀ r, CommandEffect h s (s.refuse r) := fun r =>
    ⟨⟨rfl, rfl, rfl, rfl, rfl, rfl, fun _ h => h, id⟩, rfl, rfl, .inl rfl⟩
  have handed : ∀ r, CommandEffect h s (s.hand h r) := fun r =>
    ⟨⟨rfl, rfl, rfl, rfl, rfl, rfl, fun _ h => h, id⟩, rfl, rfl, .inl rfl⟩
  have accepted : ∀ op n b, (s.eng.get h).busyCmd = false →
      (op = .send ∨ op = .receive → (s.eng.get h).initialized = true) →
      (op = .receive → 1 ≤ n ∧ n ≤ s.cfg.fifoDepth) →
      CommandEffect h s
        (s.setEng h { s.eng.get h with busyCmd := true, op := op, pc := 1, len := n, txbuf := b }) :=
    fun op n b hb hi hl =>
      ⟨⟨rfl, rfl, rfl, rfl, rfl, rfl, fun _ h => h, id⟩, rfl, rfl, .inr ⟨hb, op, n, b, rfl, hi, hl⟩⟩
  cases i <;> simp only [commandEngine, Option.some.injEq, reduceCtorEq] at hm <;> subst hm <;>
    simp only [exec, execInit, execFlushFifos, execSend, execReceive, whenInitialized, whenIdle, Engine.accept,
      Host.Outcome.next.injEq] at ht
  case init =>
    split at ht
    · subst ht; exact refused _
    · rename_i hb
      split at ht
      · subst ht; exact refused _
      · subst ht; exact accepted .init _ _ (by simpa using hb) (by simp) (by simp)
  case flushFifos =>
    split at ht
    · subst ht; exact refused _
    · rename_i hb
      subst ht; exact accepted .flushFifos _ _ (by simpa using hb) (by simp) (by simp)
  case send =>
    split at ht
    · subst ht; exact refused _
    · rename_i hb
      split at ht
      · rename_i hi
        split at ht
        · subst ht; exact handed _
        · split at ht
          · subst ht; exact accepted .send _ _ (by simpa using hb) (fun _ => hi) (by simp)
          · subst ht; exact handed _
      · subst ht; exact refused _
  case receive =>
    split at ht
    · subst ht; exact refused _
    · rename_i hb
      split at ht
      · rename_i hi
        split at ht
        · subst ht; exact refused _
        · rename_i hl
          subst ht
          exact accepted .receive _ _ (by simpa using hb) (fun _ => hi) (fun _ => by omega)
      · subst ht; exact refused _

/-- Whatever the instruction is, these parts of the state are kept. -/
theorem exec_kept {i : Instr} {s t : State} (ht : exec i s = .next t) : Kept s t := by
  cases hc : accessedCtrl i with
  | some h => exact (exec_access_effect hc ht).toKept
  | none =>
    cases hm : commandEngine i with
    | some h => exact (exec_command_effect hm ht).toKept
    | none => exact (exec_timeBase_effect hc hm ht).toKept

/-! ## Engine steps -/

/-- `t` is `u` with the locals of engine `h`, and the results, changed. -/
def OnlyEngine (h : Handle) (u t : State) : Prop :=
  ∃ e rs, t = { u with eng := u.eng.set h e, results := rs }

theorem OnlyEngine.refl (h : Handle) (u : State) : OnlyEngine h u u := ⟨u.eng.get h, u.results, by simp⟩

theorem OnlyEngine.setEng (h : Handle) (u : State) (e : Engine) : OnlyEngine h u (u.setEng h e) := ⟨e, u.results, rfl⟩

theorem OnlyEngine.finish (h : Handle) (u : State) (r : Result) : OnlyEngine h u (u.finish h r) := ⟨_, _, rfl⟩

/-- An engine's access performs one instruction; unless it faults or is refused, the engine goes on. -/
theorem engineAccess_cases {h : Handle} {i : Instr} {s t : State} {after : State → State}
    (ht : engineAccess h i s after = .next t) :
    ∃ u, exec i s = .next u ∧
      ((t = u ∧ (u.halted (.engine h) = true ∨ u.refusal.isSome = true)) ∨
        (u.halted (.engine h) = false ∧ u.refusal = none ∧ t = after u)) := by
  obtain ⟨u, hu⟩ := exec_next i s
  refine ⟨u, hu, ?_⟩
  simp only [engineAccess, hu, Host.Outcome.next.injEq] at ht
  split at ht
  · rename_i hx
    exact .inl ⟨ht.symm, by simpa using hx⟩
  · rename_i hx
    simp only [Bool.or_eq_true, not_or, Bool.not_eq_true, Option.isSome_eq_false_iff, Option.isNone_iff_eq_none] at hx
    exact .inr ⟨hx.1, hx.2, ht.symm⟩

/-- The instruction a step of an engine performs, if it performs one (R177 to R183). -/
def microAccess (p : Params) (h : Handle) (e : Engine) : Micro → Option Instr
  | .readCommand1 => some (.rdCommand1 h)
  | .writeCommand1 clr set => some (.wrCommand1 h (rmwWord e.scratch clr set))
  | .pollTransStatus _ _ => some (.rdTransStatus h)
  | .pollFifoStatus _ _ => some (.rdFifoStatus h)
  | .writeTransStatus v => some (.wrTransStatus h v)
  | .writeFifoStatus v => some (.wrFifoStatus h v)
  | .writeBlkSize v => some (.wrBlkSize h v)
  | .writeTxFifo v => some (.wrTxFifo h v)
  | .delayStart => some .rdTmrCntr1us
  | .delayWait _ => some .rdTmrCntr1us
  | .dummyRead => some (.rdCommand1 h)
  | .checkErrReturn => some (.rdFifoStatus h)
  | .checkErrDrain _ => some (.rdFifoStatus h)
  | .clearErrAndFail => some (.wrFifoStatus h (mErrAll p))
  | .drain => some (.rdRxFifo h)
  | .finishInit => none
  | .finishOk => none
  | .finishData => none

/-- An engine accesses only its own controller, or reads the Time Base counter. -/
theorem microAccess_own {p : Params} {h : Handle} {e : Engine} {m : Micro} {i : Instr}
    (hi : microAccess p h e m = some i) : accessedCtrl i = some h ∨ i = .rdTmrCntr1us := by
  cases m <;> simp only [microAccess, Option.some.injEq, reduceCtorEq] at hi <;> subst hi <;> simp [accessedCtrl]

/-- One step of an engine: at most one bus access, then its own locals and the results. -/
theorem runMicro_cases {h : Handle} {m : Micro} {s t : State} (ht : runMicro h m s = .next t) :
    (microAccess s.cfg h (s.eng.get h) m = none ∧ OnlyEngine h s t) ∨
    ∃ i u, microAccess s.cfg h (s.eng.get h) m = some i ∧ exec i s = .next u ∧ OnlyEngine h u t := by
  cases m <;> simp only [runMicro] at ht
  case finishInit => cases ht; exact .inl ⟨rfl, _, _, by simp [State.finish, State.setEng, State.hand]; exact ⟨rfl, rfl⟩⟩
  case finishOk => cases ht; exact .inl ⟨rfl, .finish _ _ _⟩
  case finishData => cases ht; exact .inl ⟨rfl, .finish _ _ _⟩
  all_goals
    obtain ⟨u, hu, ⟨rfl, -⟩ | ⟨-, -, rfl⟩⟩ := engineAccess_cases ht
    · exact .inr ⟨_, _, rfl, hu, .refl _ _⟩
  case readCommand1 => exact .inr ⟨_, _, rfl, hu, .setEng _ _ _⟩
  case writeCommand1 => exact .inr ⟨_, _, rfl, hu, .setEng _ _ _⟩
  case pollTransStatus => exact .inr ⟨_, _, rfl, hu, .setEng _ _ _⟩
  case pollFifoStatus => exact .inr ⟨_, _, rfl, hu, .setEng _ _ _⟩
  case writeTransStatus => exact .inr ⟨_, _, rfl, hu, .setEng _ _ _⟩
  case writeFifoStatus => exact .inr ⟨_, _, rfl, hu, .setEng _ _ _⟩
  case writeBlkSize => exact .inr ⟨_, _, rfl, hu, .setEng _ _ _⟩
  case writeTxFifo => exact .inr ⟨_, _, rfl, hu, .setEng _ _ _⟩
  case delayStart => exact .inr ⟨_, _, rfl, hu, .setEng _ _ _⟩
  case dummyRead => exact .inr ⟨_, _, rfl, hu, .setEng _ _ _⟩
  case clearErrAndFail => exact .inr ⟨_, _, rfl, hu, .finish _ _ _⟩
  case delayWait =>
    refine .inr ⟨_, _, rfl, hu, ?_⟩
    unfold State.delayNext
    dsimp only
    split
    · exact .refl _ _
    · exact .setEng _ _ _
  case checkErrReturn =>
    refine .inr ⟨_, _, rfl, hu, ?_⟩
    unfold State.errNext
    dsimp only
    split <;> exact ⟨_, _, by simp [State.finish, State.setEng, State.hand, State.advance]; exact ⟨rfl, rfl⟩⟩
  case checkErrDrain =>
    refine .inr ⟨_, _, rfl, hu, ?_⟩
    unfold State.errDrainNext
    dsimp only
    split <;> exact .setEng _ _ _
  case drain => exact .inr ⟨_, _, rfl, hu, .setEng _ _ _⟩

/-- The turn of an engine: nothing, or the step its `pc` names. -/
theorem engineStep_cases {h : Handle} {s t : State} (ht : engineStep h s = .next t) :
    t = s ∨ ∃ m, s.engineEnabled h = true ∧ (s.eng.get h).micro? s.cfg = some m ∧ runMicro h m s = .next t := by
  unfold engineStep at ht
  split at ht
  · rename_i he
    split at ht
    · rename_i m hm
      exact .inr ⟨m, he, hm, ht⟩
    · cases ht; exact .inl rfl
  · cases ht; exact .inl rfl

/-! ## Steps of the machine -/

/-- A step is the turn of the agent the state names, from a state that is not refused. -/
theorem step_cases {s t : State} (ht : step s = .next t) : s.refusal = none ∧ takeTurn s.turn s.begin = .next t := by
  unfold step stepOnce at ht
  split at ht
  · cases ht
  · rename_i h
    exact ⟨h, ht⟩

/-- A decided turn is the next one. -/
theorem step_of_agenda {s : State} {u : Turn} {ts : List Turn} (hr : s.refusal = none) (ha : s.agenda = u :: ts) :
    step s = takeTurn u { s with agenda := ts, actor := turnAgent u } := by
  simp [step, stepOnce, hr, State.turn, State.begin, State.afterTurn, State.as, ha]

/-- The host's turn: a refusal, the command, or a fault of the engine the word names. -/
theorem hostStep_cases {c : Word} {bytes : List Byte} {s t : State} (ht : hostStep c bytes s = .next t) :
    (t = s.refuse (.concurrentCommand (Handle.ofBits (cmdH c)))) ∨
    (∃ i, decodeCmd c bytes = .ok i ∧ exec i s = .next t) ∨
    ∃ v, decodeCmd c bytes = .error v ∧ t = s.raiseAs (.engine (Handle.ofBits (cmdH c))) (faultOf v) := by
  unfold hostStep at ht
  dsimp only at ht
  split at ht
  · cases ht; exact .inl rfl
  · split at ht
    · rename_i i hi; exact .inr (.inl ⟨i, hi, ht⟩)
    · rename_i v hv; cases ht; exact .inr (.inr ⟨v, hv, rfl⟩)

/-- A master's turn: nothing, the access, or a fault of the master. -/
theorem masterStep_cases {m : Nat} {a : Config.Access} {s t : State} (ht : masterStep m a s = .next t) :
    (s.halted (.master m) = true ∧ t = s) ∨
    (∃ i, decodeAccess s.cfg a = .ok i ∧ exec i s = .next t) ∨
    ∃ v, decodeAccess s.cfg a = .error v ∧ t = s.raise (faultOf v) := by
  unfold masterStep at ht
  split at ht
  · rename_i hh; cases ht; exact .inl ⟨hh, rfl⟩
  · split at ht
    · rename_i i hi; exact .inr (.inl ⟨i, hi, ht⟩)
    · rename_i v hv; cases ht; exact .inr (.inr ⟨v, hv, rfl⟩)

/-- A command word decodes only to a command of the engine it names. -/
theorem decodeCmd_engine {c : Word} {bytes : List Byte} {i : Instr} (h : decodeCmd c bytes = .ok i) :
    commandEngine i = some (Handle.ofBits (cmdH c)) := by
  unfold decodeCmd at h
  dsimp only at h
  split at h
  · cases h
  · split at h
    · split at h <;> cases h; rfl
    · split at h
      · split at h <;> cases h; rfl
      · split at h <;> cases h <;> rfl

/-! ## Runs with given turns -/

/-- A run of no turns. -/
@[simp] theorem runTurns_nil (s : State) : runTurns [] s = .next { s with agenda := [] } := rfl

/-- The first turn of a run: what its agent does, then the run of the other turns. -/
theorem runTurns_cons {u : Turn} {ts : List Turn} {s t : State} (hr : s.refusal = none)
    (ht : takeTurn u { s with agenda := ts, actor := turnAgent u } = .next t) (ha : t.agenda = ts) :
    runTurns (u :: ts) s = runTurns ts t := by
  have hs : core.step { s with agenda := u :: ts } = .next t := (step_of_agenda (s := { s with agenda := u :: ts }) hr rfl).trans ht
  have ht' : ({ t with agenda := ts } : State) = t := by subst ha; rfl
  simp only [runTurns, List.length_cons, Host.Core.run, hs, ht']
  rfl

/-- The turns of an engine, one at a time. -/
@[simp] theorem engineTurns_zero (h : Handle) : engineTurns h 0 = [] := rfl

theorem engineTurns_succ (h : Handle) (n : Nat) : engineTurns h (n + 1) = .engine h :: engineTurns h n := rfl

end Sys2Proof.Machine
end

