-- ==== Sys2Proof/Tests/Slice0.lean ====
section
/-! SUPPORT. The model's own tests: words written out from 30_encoding R81 and R83, an ill-formed term for each check of WellFormed,
vectors of 95_test_vectors L1 and L2, and a state that meets the hypotheses of each statement.

Every expected value is the spec's, worked by hand there. -/

namespace Sys2Proof.Tests

open Sys2Proof.Machine
open Sys2Proof.Config (Turn Access)

/-! ## Helpers -/

/-- What is read off a next state. -/
def after {α : Type} (o : Out) (f : State → α) : Option α :=
  match o with
  | .next t => some (f t)
  | _ => none

/-- The verdict of a rejected word. -/
def verdict (r : Except Verdict Instr) : Option Verdict :=
  match r with
  | .ok _ => none
  | .error v => some v

/-- An idle controller configured as program P1 of L3 leaves it. -/
def idleCtrl : Ctrl := { Ctrl.reset .zero with command1 := 0x03E00007 }

/-- The same controller in the middle of a transmit of `n` more frames. -/
def busyCtrl (n : Nat) : Ctrl :=
  { idleCtrl with command1 := 0x03E00807, blkSize := 3, busy := true, framesLeft := n, lat := ⟨true, false, false⟩ }

/-- A state at `now = 100` in which a harness accesses SPI1; every draw is 0. -/
def bench (c : Ctrl) : State :=
  { State.reset with ctrl := State.reset.ctrl.set .spi1 c, actor := .master 0, now := 100, script := [0, 0, 0, 0] }

/-- An engine that runs a command at a step. -/
def running (op : EngineOp) (pc : Nat) : Engine :=
  { Engine.reset .zero with busyCmd := true, initialized := true, op := op, pc := pc }

/-- A state at `now = 100` in which the engine of SPI1 moves next. -/
def engineBench (e : Engine) (c : Ctrl) : State :=
  { bench c with eng := State.reset.eng.set .spi1 e, agenda := [.engine .spi1] }

def full : List Word := List.replicate 64 0x11

/-! ## Decoding (L2.1 to L2.3): one word per constructor, written out field by field -/

-- ACC: W, BLK, OFF.
theorem test_decode_rdCommand1 : decodeTableWord 16 0b0000000000000000 = some (.rdCommand1 .spi1) := by decide
theorem test_decode_wrCommand1 : decodeTableWord 16 0b1000000000000000 = some (.wrCommand1 .spi1 0) := by decide
theorem test_decode_rdTransStatus : decodeTableWord 16 0b0011000000010000 = some (.rdTransStatus .spi4) := by decide
theorem test_decode_wrTransStatus : decodeTableWord 16 0b1001000000010000 = some (.wrTransStatus .spi2 0) := by decide
theorem test_decode_rdFifoStatus : decodeTableWord 16 0b0010000000010100 = some (.rdFifoStatus .spi3) := by decide
theorem test_decode_wrFifoStatus : decodeTableWord 16 0b1010000000010100 = some (.wrFifoStatus .spi3 0) := by decide
theorem test_decode_rdBlkSize : decodeTableWord 16 0b0001000000100100 = some (.rdBlkSize .spi2) := by decide
theorem test_decode_wrBlkSize : decodeTableWord 16 0b1011000000100100 = some (.wrBlkSize .spi4 0) := by decide
theorem test_decode_wrTxFifo : decodeTableWord 16 0b1011000100001000 = some (.wrTxFifo .spi4 0) := by decide
theorem test_decode_rdRxFifo : decodeTableWord 16 0b0001000110001000 = some (.rdRxFifo .spi2) := by decide
theorem test_decode_rdTmrCntr1us : decodeTableWord 16 0b0100000000000000 = some .rdTmrCntr1us := by decide
theorem test_decode_wrTmrCntr1us : decodeTableWord 16 0b1100000000000000 = some (.wrTmrCntr1us 0) := by decide
theorem test_decode_rdTmrUsecCfg : decodeTableWord 16 0b0100000000000100 = some .rdTmrUsecCfg := by decide
theorem test_decode_wrTmrUsecCfg : decodeTableWord 16 0b1100000000000100 = some (.wrTmrUsecCfg 0) := by decide
theorem test_decode_rdTmrCntrFreeze : decodeTableWord 16 0b0100000000111100 = some .rdTmrCntrFreeze := by decide
theorem test_decode_wrTmrCntrFreeze : decodeTableWord 16 0b1100000000111100 = some (.wrTmrCntrFreeze 0) := by decide
-- CMD: LEN, RSV, H, OP.
theorem test_decode_init : decodeTableWord 32 0b00000000000000000000000000000100 = some (.init .spi2) := by decide
theorem test_decode_flushFifos : decodeTableWord 32 0b00000000000000000000000000000001 = some (.flushFifos .spi1) := by
  decide
theorem test_decode_send : decodeTableWord 32 0b00000000000001000000000000001110 = some (.send .spi4 4 [0, 0, 0, 0]) := by
  decide
theorem test_decode_receive : decodeTableWord 32 0b00000000010000000000000000000111 = some (.receive .spi2 64) := by
  decide

/-- A write's data operand (R81). -/
theorem test_decode_data : decodeAcc Config.defaults 0xB108 0xEFBEADDE = .ok (.wrTxFifo .spi4 0xEFBEADDE) := by rfl

/-- L2.1, the rejected descriptors. -/
theorem test_reject_descriptors :
    verdict (decodeAcc Config.defaults 0x0108 0) = some (.wrongDirection .spi1 .tx) ∧
    verdict (decodeAcc Config.defaults 0x8188 0) = some (.wrongDirection .spi1 .rx) ∧
    verdict (decodeAcc Config.defaults 0x0012 0) = some (.misaligned (.addr 0x7000D412)) ∧
    verdict (decodeAcc Config.defaults 0x0004 0) = some (.unmappedAccess (.addr 0x7000D404)) ∧
    verdict (decodeAcc Config.defaults 0x5000 0) = some (.unmappedAccess (.desc 0x5000)) ∧
    verdict (decodeAcc Config.defaults 0x4010 0) = some (.unmappedAccess (.addr 0x60005020)) := by decide

/-- L2.2: physical addresses, at both ends of a block. -/
theorem test_decode_addresses :
    decodePhys Config.defaults 0x7000D400 32 none = .ok (.rdCommand1 .spi1) ∧
    decodePhys Config.defaults 0x7000D614 32 none = .ok (.rdFifoStatus .spi2) ∧
    decodePhys Config.defaults 0x7000D908 32 (some 7) = .ok (.wrTxFifo .spi3 7) ∧
    decodePhys Config.defaults 0x7000DB88 32 none = .ok (.rdRxFifo .spi4) ∧
    decodePhys Config.defaults 0x60005010 32 none = .ok .rdTmrCntr1us ∧
    decodePhys Config.defaults 0x6000504C 32 none = .ok .rdTmrCntrFreeze := ⟨rfl, rfl, rfl, rfl, rfl, rfl⟩

theorem test_reject_addresses :
    verdict (decodePhys Config.defaults 0x7000D608 32 none) = some (.unmappedAccess (.addr 0x7000D608)) ∧
    verdict (decodePhys Config.defaults 0x7000DC00 32 none) = some (.unmappedAccess (.addr 0x7000DC00)) ∧
    verdict (decodePhys Config.defaults 0x60005050 32 none) = some (.unmappedAccess (.addr 0x60005050)) ∧
    verdict (decodePhys Config.defaults 0x7000D402 32 none) = some (.misaligned (.addr 0x7000D402)) ∧
    verdict (decodePhys Config.defaults 0x7000D400 8 none) = some (.badWidth 0x7000D400) := by decide

/-- L2.3, the malformed command words. -/
theorem test_reject_commands :
    verdict (decodeCmd 0x00000013 []) = some (.illegalCommand 0x13) ∧
    verdict (decodeCmd 0x00010000 []) = some (.illegalCommand 0x10000) := by decide

/-- The encoder on the vectors of L2.1 and L2.3. -/
theorem test_encode :
    encode Config.defaults (.wrBlkSize .spi4 3) = .acc 0xB024 (some 3) ∧
    encode Config.defaults .rdTmrCntrFreeze = .acc 0x403C none ∧
    encode Config.defaults (.send .spi4 4 [1, 2, 3, 4]) = .cmd 0x0004000E [1, 2, 3, 4] := by decide

/-- A step runs a placed instruction first, from reset too: the counter is 0 there. -/
theorem test_step_runs_placed_word :
    after (step (State.reset.withFetchWord 16 0x4000)) (·.rdata) = some 0 ∧
    after (step (State.reset.withFetchWord 32 0x00000001)) (fun t => (t.eng.spi1.busyCmd, t.eng.spi1.pc))
      = some (true, 1) := by decide

/-! ## Well-formedness: one ill-formed term for each check -/

theorem test_wf_defaults : Config.defaults.wf = true := by decide
theorem test_illformed_descriptor_register : accWellFormed 0x0004 = false := by decide
theorem test_illformed_descriptor_block : accWellFormed 0x5000 = false := by decide
theorem test_illformed_descriptor_direction : accWellFormed 0x0108 = false := by decide
theorem test_illformed_command_reserved : cmdWellFormed 0x00000013 = false := by decide
theorem test_illformed_command_length : cmdWellFormed 0x00010000 = false := by decide
theorem test_illformed_rdy : { Config.defaults with rdy := 32 }.wf = false := by decide
theorem test_illformed_fifoDepth : { Config.defaults with fifoDepth := 128 }.wf = false := by decide
theorem test_illformed_fifoDepth_zero : { Config.defaults with fifoDepth := 0 }.wf = false := by decide
theorem test_illformed_blkSizeBits : { Config.defaults with blkSizeBits := 33 }.wf = false := by decide
theorem test_illformed_command1_overlap :
    { Config.defaults with command1 := { Config.defaults.command1 with rxEn := 11 } }.wf = false := by decide
theorem test_illformed_fifoStatus_outside :
    { Config.defaults with fifoStatus := { Config.defaults.fifoStatus with rxFullCount := 26 } }.wf = false := by decide
theorem test_illformed_usecCfg_overlap :
    { Config.defaults with timeBase := { Config.defaults.timeBase with usecDividend := 7 } }.wf = false := by decide
theorem test_illformed_freeze_outside :
    { Config.defaults with timeBase := { Config.defaults.timeBase with freezeCop := 32 } }.wf = false := by decide
theorem test_illformed_offset_unaligned :
    { Config.defaults.bus with offTxFifo := 0x109 }.wf = false := by decide
theorem test_illformed_offset_outside :
    { Config.defaults.bus with offRxFifo := 0x200 }.wf = false := by decide
theorem test_illformed_offset_repeated :
    { Config.defaults.bus with offCntrFreeze := 0x004 }.wf = false := by decide
theorem test_illformed_blocks_overlap :
    { Config.defaults.bus with tmrBase := 0x7000D400 }.wf = false := by decide
theorem test_illformed_block_unaligned :
    { Config.defaults.bus with tmrBase := 0x60005012 }.wf = false := by decide
theorem test_illformed_block_too_long :
    { Config.defaults.bus with spiBlockBytes := 0x1004 }.wf = false := by decide

/-! ## Register accesses (L2.4) -/

/-- Vectors 1 and 2, the draw of bits 10:6 being 0. -/
theorem test_rdCommand1 :
    after (exec (.rdCommand1 .spi1) (bench { idleCtrl with command1 := 0x03E00007 })) (·.rdata) = some 0x03E00007 ∧
    after (exec (.rdCommand1 .spi1) (bench (busyCtrl 4))) (·.rdata) = some 0x83E00807 := by decide

/-- Vectors 3 and 4: the window closes one microsecond after the trigger, not before. -/
theorem test_rdCommand1_stale :
    after (exec (.rdCommand1 .spi1) (bench { busyCtrl 4 with stale := true, tTrig := 100 })) (·.ctrl.spi1.stale)
      = some true ∧
    after (exec (.rdCommand1 .spi1) (bench { busyCtrl 4 with stale := true, tTrig := 99 })) (·.ctrl.spi1.stale)
      = some false := by decide

/-- Vectors 9 to 12. -/
theorem test_wrCommand1_unsupported :
    after (exec (.wrCommand1 .spi1 0x83E0080F) (bench idleCtrl)) (·.refusal)
      = some (some (.unsupportedConfig .spi1 .bitLength)) ∧
    after (exec (.wrCommand1 .spi1 0x83E00827) (bench idleCtrl)) (·.refusal)
      = some (some (.unsupportedConfig .spi1 .packed)) ∧
    after (exec (.wrCommand1 .spi1 0x83C00807) (bench idleCtrl)) (·.refusal)
      = some (some (.unsupportedConfig .spi1 .hwChipSelect)) ∧
    after (exec (.wrCommand1 .spi1 0x83E00007) (bench idleCtrl)) (·.refusal)
      = some (some (.unsupportedConfig .spi1 .noDirection)) := by decide

/-- Vectors 7 and 13: the settle window is exactly two microseconds; vector 28: the longest block. -/
theorem test_wrCommand1_trigger :
    after (exec (.wrCommand1 .spi1 0x83E00807) (bench { idleCtrl with tLastw := some 99 }))
      (fun t => (t.faults, t.ctrl.spi1.busy)) = some ([⟨.master 0, .hazardSettle .spi1⟩], false) ∧
    after (exec (.wrCommand1 .spi1 0x83E00807) (bench { idleCtrl with tLastw := some 98, blkSize := 0xFFFF }))
      (fun t => (t.ctrl.spi1.busy, t.ctrl.spi1.framesLeft, t.ctrl.spi1.lat, t.ctrl.spi1.tTrig, t.ctrl.spi1.rdy))
      = some (true, 65536, ⟨true, false, false⟩, 100, true) := by decide

/-- Vectors 15 and 16: the bit read in the stale window is the draw, not RDY. -/
theorem test_rdTransStatus :
    after (exec (.rdTransStatus .spi1) (bench { idleCtrl with stale := true })) (·.rdata.getLsbD 30) = some false ∧
    after (exec (.rdTransStatus .spi1) { bench { idleCtrl with rdy := false } with script := [0xFFFFFFFF] }) (·.rdata)
      = some 0xBFFFFFFF := by decide

/-- Vectors 17 and 18. -/
theorem test_wrTransStatus :
    after (exec (.wrTransStatus .spi1 0x40000000) (bench idleCtrl)) (·.ctrl.spi1.rdy) = some false ∧
    after (exec (.wrTransStatus .spi1 0xBFFFFFFF) (bench idleCtrl)) (·.ctrl.spi1.rdy) = some true := by decide

/-- Vectors 19 and 20, the draws being 0 and 1. -/
theorem test_rdFifoStatus :
    after (exec (.rdFifoStatus .spi1) (bench { idleCtrl with txq := full, rxq := [1, 2, 3] })) (·.rdata)
      = some 0x01800008 ∧
    after (exec (.rdFifoStatus .spi1) { bench { idleCtrl with flushTx := true } with script := [0xFFFFFFFF] }) (·.rdata)
      = some 0xC07F7E0D := by decide

/-- Vectors 21 to 25. -/
theorem test_wrFifoStatus :
    after (exec (.wrFifoStatus .spi1 0x00000100) (bench { idleCtrl with err := true, rxOvf := true }))
      (fun t => (t.ctrl.spi1.err, t.ctrl.spi1.rxOvf)) = some (false, true) ∧
    after (exec (.wrFifoStatus .spi1 0x00004000) (bench { idleCtrl with err := true }))
      (fun t => (t.ctrl.spi1.flushTx, t.ctrl.spi1.flushRx, t.ctrl.spi1.err)) = some (true, false, true) := by decide

theorem test_wrFifoStatus_busy :
    after (exec (.wrFifoStatus .spi1 0x0000C000) (bench (busyCtrl 4))) (·.faults)
      = some [⟨.master 0, .flushWhileBusy .spi1⟩] ∧
    after (exec (.wrFifoStatus .spi1 0x000001F0) (bench { busyCtrl 4 with err := true })) (·.ctrl.spi1.err)
      = some false := by decide

/-- Vectors 30 and 27. -/
theorem test_blkSize :
    after (exec (.rdBlkSize .spi1) { bench { idleCtrl with blkSize := 3 } with script := [0xABCDFFFF] }) (·.rdata)
      = some 0xABCD0003 ∧
    after (exec (.wrBlkSize .spi1 0x00010003) (bench idleCtrl)) (·.ctrl.spi1.blkSize) = some 3 := by decide

/-- Vectors 31 and 32. -/
theorem test_wrTxFifo :
    after (exec (.wrTxFifo .spi1 0xEFBEADDE) (bench idleCtrl)) (·.ctrl.spi1.txq) = some [0xEFBEADDE] ∧
    after (exec (.wrTxFifo .spi1 0x22) (bench { idleCtrl with txq := full }))
      (fun t => (t.ctrl.spi1.txOvf, t.ctrl.spi1.err, t.ctrl.spi1.txq)) = some (true, true, full) := by decide

/-- Vectors 35 and 36, the draw being 7. -/
theorem test_rdRxFifo :
    after (exec (.rdRxFifo .spi1) (bench { idleCtrl with rxq := [0xFFFFFF5A, 1] }))
      (fun t => (t.rdata, t.ctrl.spi1.rxq)) = some (0xFFFFFF5A, [1]) ∧
    after (exec (.rdRxFifo .spi1) { bench idleCtrl with script := [7] })
      (fun t => (t.rdata, t.ctrl.spi1.rxUnf, t.ctrl.spi1.err)) = some (7, true, true) := by decide

/-! ## Controller steps (L2.5) -/

/-- Vector 1, with `miso = 0x11` in the second draw. -/
theorem test_frame_pops :
    after (step { bench { busyCtrl 4 with txq := [0x123456AB] } with agenda := [.frame .spi1], script := [0, 0x11] })
      (fun t => (t.ctrl.spi1.txq, t.ctrl.spi1.wire, t.ctrl.spi1.framesLeft))
      = some ([], [⟨.spi1, 0b1110, 0xAB, 0x11, false⟩], 3) := by decide

/-- Vectors 2 and 4. -/
theorem test_frame_errors :
    after (step { bench (busyCtrl 3) with agenda := [.frame .spi1] })
      (fun t => (t.ctrl.spi1.txUnf, t.ctrl.spi1.err, t.ctrl.spi1.framesLeft)) = some (true, true, 2) ∧
    after (step { bench { busyCtrl 1 with lat := ⟨false, true, false⟩, rxq := full } with agenda := [.frame .spi1] })
      (fun t => (t.ctrl.spi1.rxOvf, t.ctrl.spi1.err, t.ctrl.spi1.rxq)) = some (true, true, full) := by decide

/-- Vectors 5 and 6: transmit off pops nothing; the generic error sets ERR alone. -/
theorem test_frame_receive_only :
    after (step { bench { busyCtrl 1 with lat := ⟨false, true, false⟩, txq := [0x77] } with
        agenda := [.frame .spi1], script := [0x100, 0x5A] })
      (fun t => (t.ctrl.spi1.txq, t.ctrl.spi1.rxq, t.ctrl.spi1.err, t.ctrl.spi1.txUnf, t.ctrl.spi1.rxOvf))
      = some ([0x77], [0x5A], true, false, false) := by decide

/-- Vectors 7 and 8. -/
theorem test_completion_and_flush :
    after (step { bench { busyCtrl 0 with rdy := false } with agenda := [.complete .spi1] })
      (fun t => (t.ctrl.spi1.busy, t.ctrl.spi1.rdy)) = some (false, true) ∧
    after (step { bench { idleCtrl with flushTx := true, flushRx := true, txq := [1], rxq := [2, 3], err := true } with
        agenda := [.flushTx .spi1] })
      (fun t => (t.ctrl.spi1.txq, t.ctrl.spi1.rxq, t.ctrl.spi1.flushTx, t.ctrl.spi1.flushRx, t.ctrl.spi1.err))
      = some ([], [2, 3], false, true, true) := by decide

/-- Vectors 9 and 10. -/
theorem test_chip_select :
    csLevels Config.defaults 0x03E00007 true = 0b1110 ∧
    csLevels Config.defaults 0x08300007 false = 0b0100 := by decide

/-! ## Engine (L1.1, L2.6, L2.7) -/

/-- L1.1 and the packing table of L2.6. -/
theorem test_pack :
    pack ⟨0x01, 0x02, 0x03, 0x04⟩ = 0x04030201 ∧ pack ⟨0xDE, 0xAD, 0xBE, 0xEF⟩ = 0xEFBEADDE ∧
    unpack 0xEFBEADDE = ⟨0xDE, 0xAD, 0xBE, 0xEF⟩ ∧ lowByte 0xFFFFFF5A = 0x5A := by decide

/-- Vectors 2, 3 and 4. -/
theorem test_command_contract :
    after (exec (.send .spi1 4 [1, 2, 3, 4]) State.reset) (·.refusal) = some (some (.notInitialized .spi1)) ∧
    after (exec (.init .spi1) { State.reset with eng := State.reset.eng.set .spi1 { Engine.reset .zero with initialized := true } })
      (·.refusal) = some (some (.initTwice .spi1)) ∧
    after (exec (.flushFifos .spi1) { State.reset with eng := State.reset.eng.set .spi1 (running .send 5) })
      (·.refusal) = some (some (.concurrentCommand .spi1)) := by decide

/-- An engine that has completed INIT. -/
def ready : State :=
  { State.reset with eng := State.reset.eng.set .spi1 { Engine.reset .zero with initialized := true } }

/-- Vectors 5 and 6 of L2.6, and the last row of L2.3. -/
theorem test_send_lengths :
    exec (.send .spi1 3 [1, 2, 3]) ready = .next { ready with results := [(.spi1, .invalidArgument)] } ∧
    exec (.send .spi1 0 []) ready = .next { ready with results := [(.spi1, .invalidArgument)] } ∧
    exec (.send .spi1 4 [1, 2, 3, 4, 5]) ready = .next { ready with results := [(.spi1, .invalidArgument)] } :=
  ⟨rfl, rfl, rfl⟩

/-- L2.3: the bounds of RECEIVE's length. -/
theorem test_receive_lengths :
    after (exec (.receive .spi1 64) ready) (fun t => (t.eng.spi1.busyCmd, t.eng.spi1.len, t.refusal)) = some (true, 64, none) ∧
    after (exec (.receive .spi1 65) ready) (·.refusal) = some (some (.receiveLength 65)) ∧
    after (exec (.receive .spi1 0) ready) (·.refusal) = some (some (.receiveLength 0)) := by decide

/-- P2, steps 14 and 22. -/
theorem test_send_steps :
    after (step (engineBench { running .send 14 with scratch := 0x03E00807 } { idleCtrl with blkSize := 3, tLastw := some 98 }))
      (fun t => (t.ctrl.spi1.busy, t.ctrl.spi1.framesLeft, t.ctrl.spi1.lat.txEn, t.eng.spi1.pc)) = some (true, 4, true, 15) ∧
    after (step (engineBench (running .send 22) { idleCtrl with err := true, txUnf := true }))
      (fun t => (t.ctrl.spi1.err, t.ctrl.spi1.txUnf, t.results, t.eng.spi1.busyCmd))
      = some (false, false, [(.spi1, .transferError)], false) := by decide

/-- P1, step 2. -/
theorem test_init_step :
    after (step (engineBench { running .init 2 with scratch := 0x03C00000 } { idleCtrl with command1 := 0x03C00000 }))
      (·.ctrl.spi1.command1) = some 0x03F00007 := by decide

/-- P3, step 22. -/
theorem test_drain_step :
    after (step (engineBench { running .receive 22 with len := 2 } { idleCtrl with rxq := [0xFFFFFF5A, 0xA5] }))
      (fun t => (t.eng.spi1.out, t.eng.spi1.k, t.eng.spi1.pc)) = some ([0x5A], 1, 22) := by decide

/-- The rows of R172 for SEND at the boundaries of its steps, and an engine before its first command whatever its `result`. -/
theorem test_phases :
    (running .send 15).runningPhases = [.triggered, .awaitingReady] ∧ (running .send 18).runningPhases = [.awaitingReady] ∧
    (running .send 19).runningPhases = [] ∧ (running .receive 14).runningPhases = [.triggered, .awaitingReady] ∧
    (running .receive 18).runningPhases = [] ∧
    State.phases .spi1 { ready with eng := ready.eng.set .spi1 { ready.eng.spi1 with result := some .transferError } }
      = [.idle] ∧
    State.phases .spi1 { ready with results := [(.spi1, .transferError), (.spi1, .invalidArgument)] } = [.errored] := by
  decide

/-- A final state shows RDY as the draw while the stale window is open, and the counter as it is when it is read. -/
theorem test_view :
    let s := bench { idleCtrl with stale := true, tTrig := 100 }
    let r := { ctrl := .all ⟨0, 0, 0, 0⟩, usecCfg := 0, freeze := 0, later := 5 : Reads }
    s.final = true ∧ (s.view r).ctrl.spi1.transStatus = 0 ∧ (s.view r).ctrl.spi2.transStatus = 0x40000000 ∧
      (s.view r).cntr1us = 105 ∧ (s.view r).usecCfg = 0x04BF := by decide

/-- L2.7, vectors 7 and 8. -/
theorem test_elapsed : elapsed 0x00000001 0xFFFFFFFF = 2 ∧ elapsed 0x00000000 0xFFFFFFFF = 1 := by decide

/-! ## Time Base (L2.7) -/

/-- Vectors 1 and 2. -/
theorem test_counter :
    after (exec .rdTmrCntr1us { State.reset with tmr := ⟨0xFFFFFFFF, ⟨4, 191⟩, State.reset.tmr.freeze⟩, now := 2 }) (·.rdata) = some 1 ∧
    after (exec (.wrTmrCntr1us 0) State.reset) (·.refusal) = some (some .timerCounterWrite) := by decide

/-- Vectors 3 to 5. -/
theorem test_divider :
    exec (.wrTmrUsecCfg 0x000004BF) State.reset = .next State.reset ∧
    after (exec (.wrTmrUsecCfg 0x0000000B) State.reset) (·.refusal) = some (some .timerReconfigured) ∧
    after (exec .rdTmrUsecCfg { State.resetOf { Config.defaults with fRef := .mhz12 } .zero with script := [0xABCD0000] }) (·.rdata)
      = some 0xABCD000B := ⟨rfl, by decide, by decide⟩

/-- Vector 6. -/
theorem test_freeze :
    after (exec (.wrTmrCntrFreeze 0xFFFFFFFF) State.reset) (·.tmr.freeze)
      = some ⟨true, true, true, true, true⟩ ∧
    after (exec .rdTmrCntrFreeze { State.reset with tmr := ⟨0, ⟨4, 191⟩, ⟨true, false, true, false, true⟩⟩, script := [0xFFFFFFE0] }) (·.rdata)
      = some 0xFFFFFFF5 := by decide

/-- The text of R90 for P2 and for a port write of P5. -/
theorem test_text :
    instrText (.send .spi1 4 [0xDE, 0xAD, 0xBE, 0xEF]) = "spi.send SPI1, [0xde, 0xad, 0xbe, 0xef]" ∧
    instrText (.wrTxFifo .spi1 0xC3) = "wr32 SPI1.TX_FIFO, 0xc3" := by decide

/-! ## States that meet the hypotheses of the statements

`test_meets_<Name>` shows a state and operands that meet all hypotheses of `Obligations.<Name>` together; where a statement has
several clauses, each has its own, at a boundary of its range where it has one. -/

theorem test_meets_ReadCommand1ReturnsFieldsAndBusy :
    (bench (busyCtrl 4)).cfg = Config.defaults ∧ (bench (busyCtrl 4)).mayAccess .spi1 = true := by decide

/-- The clause that faults, between the last frame and completion, and the clause that stores. -/
theorem test_meets_WriteCommand1StoresWhenIdleAndFaultsWhenBusy :
    ((bench (busyCtrl 0)).mayAccess .spi1 = true ∧ ((bench (busyCtrl 0)).ctrl.get .spi1).busy = true) ∧
    ((bench idleCtrl).mayAccess .spi1 = true ∧ (bench idleCtrl).cfg = Config.defaults ∧
      ((bench idleCtrl).ctrl.get .spi1).busy = false ∧ (0x7FFFFFFF : Word).getLsbD 31 = false) := by decide

/-- The settle window at its boundary. -/
def settled : State := bench { idleCtrl with tLastw := some 98, blkSize := 3 }

theorem test_meets_TriggerWriteStartsTransfer :
    settled.cfg = Config.defaults ∧ settled.mayAccess .spi1 = true ∧ (settled.ctrl.get .spi1).busy = false ∧
      (settled.ctrl.get .spi1).flushTx = false ∧ (settled.ctrl.get .spi1).flushRx = false ∧
      (∀ t, (settled.ctrl.get .spi1).tLastw = some t → 2 ≤ settled.now - t) ∧
      (0x83E00807 : Word).getLsbD 31 = true ∧ (0x83E00807 : Word).extractLsb' 0 5 = 7 ∧
      (0x83E00807 : Word).getLsbD 5 = false ∧ (0x83E00807 : Word).getLsbD 21 = true ∧
      ((0x83E00807 : Word).getLsbD 11 = true ∨ (0x83E00807 : Word).getLsbD 12 = true) := by
  refine ⟨by decide, by decide, by decide, by decide, by decide, ?_, by decide, by decide, by decide, by decide, by decide⟩
  rintro t ⟨⟩
  decide

theorem test_meets_TriggerChecksApplyInOrder :
    settled.cfg = Config.defaults ∧ settled.refusal = none ∧ settled.mayAccess .spi1 = true ∧
      (settled.ctrl.get .spi1).busy = false ∧ (0x83E00807 : Word).getLsbD 31 = true := by decide

/-- One trigger write for each of its clauses, the first at the last microsecond of the window. -/
theorem test_clauses_TriggerChecksApplyInOrder :
    (∃ w, ((bench { idleCtrl with tLastw := some 99 }).ctrl.get .spi1).tLastw = some w ∧ 100 - w < 2) ∧
    ((bench { idleCtrl with flushRx := true }).ctrl.get .spi1).flushRx = true ∧
    (0x83E00806 : Word).extractLsb' 0 5 ≠ 7 ∧
    ((0x83E00827 : Word).extractLsb' 0 5 = 7 ∧ (0x83E00827 : Word).getLsbD 5 = true) ∧
    ((0x83C00807 : Word).getLsbD 5 = false ∧ (0x83C00807 : Word).getLsbD 21 = false) ∧
    ((0x83E00007 : Word).getLsbD 21 = true ∧ (0x83E00007 : Word).getLsbD 11 = false ∧
      (0x83E00007 : Word).getLsbD 12 = false) :=
  ⟨⟨99, by decide, by decide⟩, by decide⟩

theorem test_meets_ReadTransStatusShowsReady :
    (bench idleCtrl).cfg.rdy < 32 ∧ (bench idleCtrl).mayAccess .spi1 = true ∧
      ((bench idleCtrl).ctrl.get .spi1).stale = false ∧
      ((bench { busyCtrl 4 with stale := true }).cfg.rdy < 32 ∧
        (bench { busyCtrl 4 with stale := true }).mayAccess .spi1 = true ∧
        ((bench { busyCtrl 4 with stale := true }).ctrl.get .spi1).stale = true) := by decide

theorem test_meets_WriteTransStatusClearsReady : (bench (busyCtrl 4)).mayAccess .spi1 = true := by decide

/-- Both FIFOs at their capacity, neither under flush. -/
theorem test_meets_ReadFifoStatusShowsFlagsAndCounts :
    let s := bench { idleCtrl with txq := full, rxq := full }
    s.cfg = Config.defaults ∧ s.mayAccess .spi1 = true ∧ (s.ctrl.get .spi1).txq.length ≤ 64 ∧
      (s.ctrl.get .spi1).rxq.length ≤ 64 ∧ (s.ctrl.get .spi1).flushTx = false ∧ (s.ctrl.get .spi1).flushRx = false := by
  decide

/-- The clause that faults and the clause that writes, busy and idle. -/
theorem test_meets_WriteFifoStatusClearsAndFlushes :
    (bench (busyCtrl 4)).cfg = Config.defaults ∧ (bench (busyCtrl 4)).mayAccess .spi1 = true ∧
      (((0x00008000 : Word).getLsbD 14 = true ∨ (0x00008000 : Word).getLsbD 15 = true) ∧
        ((bench (busyCtrl 4)).ctrl.get .spi1).busy = true) ∧
      ((0x000001F0 : Word).getLsbD 14 = false ∧ (0x000001F0 : Word).getLsbD 15 = false) ∧
      (bench idleCtrl).cfg = Config.defaults ∧ (bench idleCtrl).mayAccess .spi1 = true ∧
      ((bench idleCtrl).ctrl.get .spi1).busy = false := by decide

theorem test_meets_ReadBlkSizeReturnsField :
    (bench { idleCtrl with blkSize := 0xFFFF }).cfg = Config.defaults ∧
      (bench { idleCtrl with blkSize := 0xFFFF }).mayAccess .spi1 = true := by decide

theorem test_meets_WriteBlkSizeStoresLowBits :
    (bench (busyCtrl 4)).cfg = Config.defaults ∧ (bench (busyCtrl 4)).mayAccess .spi1 = true ∧
      ((bench (busyCtrl 4)).ctrl.get .spi1).busy = true ∧
      (bench idleCtrl).cfg = Config.defaults ∧ (bench idleCtrl).mayAccess .spi1 = true ∧
      ((bench idleCtrl).ctrl.get .spi1).busy = false := by decide

/-- A FIFO under flush, a full one and one with a single free place. -/
theorem test_meets_WriteTxFifoPushesOrOverflows :
    let s := bench { idleCtrl with txq := full }
    let s' := bench { idleCtrl with txq := full.tail }
    let f := bench { idleCtrl with flushTx := true }
    f.mayAccess .spi1 = true ∧ (f.ctrl.get .spi1).flushTx = true ∧
      s.mayAccess .spi1 = true ∧ (s.ctrl.get .spi1).flushTx = false ∧ ¬ (s.ctrl.get .spi1).txq.length < s.cfg.fifoDepth ∧
      s'.mayAccess .spi1 = true ∧ (s'.ctrl.get .spi1).flushTx = false ∧ (s'.ctrl.get .spi1).txq.length < s'.cfg.fifoDepth := by
  decide

theorem test_meets_ReadRxFifoPopsOrUnderflows :
    let s := bench { idleCtrl with rxq := [0x5A] }
    let f := bench { idleCtrl with flushRx := true }
    f.mayAccess .spi1 = true ∧ (f.ctrl.get .spi1).flushRx = true ∧
      s.mayAccess .spi1 = true ∧ (s.ctrl.get .spi1).flushRx = false ∧ (s.ctrl.get .spi1).rxq = 0x5A :: [] ∧
      (bench idleCtrl).mayAccess .spi1 = true ∧ ((bench idleCtrl).ctrl.get .spi1).flushRx = false ∧
      ((bench idleCtrl).ctrl.get .spi1).rxq = [] := by decide

/-- A read of the transmit port. -/
theorem test_meets_RejectedAccessFaultsItsMaster :
    let s := { State.reset with agenda := [.master 0 (.acc 0x0108 0)] }
    s.refusal = none ∧ s.agenda = .master 0 (.acc 0x0108 0) :: [] ∧ s.halted (.master 0) = false ∧
      decodeAccess s.cfg (.acc 0x0108 0) = .error (.wrongDirection .spi1 .tx) := ⟨rfl, rfl, rfl, rfl⟩

theorem test_meets_AccessOfOwnedControllerIsRefused :
    let s := { engineBench (running .send 5) idleCtrl with actor := .engine .spi2 }
    s.refusal = none ∧ accessedCtrl (.rdRxFifo .spi1) = some .spi1 ∧ (s.eng.get .spi1).busyCmd = true ∧
      s.actor ≠ .engine .spi1 := by decide

theorem test_meets_CounterReadsMicrosecondsAndRefusesWrites : State.reset.refusal = none := by decide

/-- The configured value and another one, for each clock. -/
theorem test_meets_DividerReadsAndKeepsItsValue :
    let s := State.resetOf { Config.defaults with fRef := .mhz12 } .zero
    (State.reset.cfg.timeBase = Config.defaults.timeBase ∧ State.reset.refusal = none ∧
      State.reset.cfg.fRef = .mhz38_4 ∧ (0xFFFF04BF : Word).extractLsb' 0 16 = (0x04BF : BitVec 16) ∧
      (0x0000000B : Word).extractLsb' 0 16 ≠ (0x04BF : BitVec 16)) ∧
    (s.cfg.timeBase = Config.defaults.timeBase ∧ s.refusal = none ∧ s.cfg.fRef = .mhz12 ∧
      (0xFFFF000B : Word).extractLsb' 0 16 = (0x000B : BitVec 16) ∧
      (0x000004BF : Word).extractLsb' 0 16 ≠ (0x000B : BitVec 16)) := by decide

theorem test_meets_FreezeBitsReadWhatWasWritten : State.reset.cfg.timeBase = Config.defaults.timeBase := by decide

theorem test_meets_InitAndFlushFifosAreAccepted :
    (State.reset.eng.get .spi4).busyCmd = false ∧ (State.reset.eng.get .spi4).initialized = false ∧
      (ready.eng.get .spi1).busyCmd = false := by decide

/-- An initialized, idle engine; each of the two ways a length is wrong. -/
theorem test_meets_SendIsAcceptedWithFourBytesOnly :
    (ready.eng.get .spi1).busyCmd = false ∧ (ready.eng.get .spi1).initialized = true ∧
      ((5 : BitVec 16) ≠ 4 ∨ [1, 2, 3, 4, 5].length ≠ (5 : BitVec 16).toNat) ∧
      ((4 : BitVec 16) ≠ 4 ∨ [1, 2, 3].length ≠ (4 : BitVec 16).toNat) := by decide

/-- The accepted lengths at both ends, and the refused ones beside them. -/
theorem test_meets_ReceiveIsAcceptedWithinTheFifo :
    ready.refusal = none ∧ (ready.eng.get .spi1).busyCmd = false ∧ (ready.eng.get .spi1).initialized = true ∧
      (1 ≤ (1 : BitVec 16).toNat ∧ (1 : BitVec 16).toNat ≤ ready.cfg.fifoDepth) ∧
      (1 ≤ (64 : BitVec 16).toNat ∧ (64 : BitVec 16).toNat ≤ ready.cfg.fifoDepth) ∧
      ¬ (1 ≤ (0 : BitVec 16).toNat ∧ (0 : BitVec 16).toNat ≤ ready.cfg.fifoDepth) ∧
      ¬ (1 ≤ (65 : BitVec 16).toNat ∧ (65 : BitVec 16).toNat ≤ ready.cfg.fifoDepth) := by decide

/-- A running engine, an initialized one and a fresh one. -/
theorem test_meets_ContractBreachesAreRefused :
    ready.refusal = none ∧ (engineBench (running .init 1) idleCtrl).refusal = none ∧
      ((engineBench (running .init 1) idleCtrl).eng.get .spi1).busyCmd = true ∧
      ((ready.eng.get .spi1).busyCmd = false ∧ (ready.eng.get .spi1).initialized = true) ∧
      ((ready.eng.get .spi2).busyCmd = false ∧ (ready.eng.get .spi2).initialized = false) := by decide

theorem test_meets_MalformedCommandFaultsItsEngine :
    let s := { State.reset with agenda := [.host 0x00000013 []] }
    s.refusal = none ∧ s.agenda = .host 0x00000013 [] :: [] ∧ cmdWellFormed 0x00000013 = false ∧
      (s.eng.get (Handle.ofBits (cmdH 0x00000013))).busyCmd = false := by decide

/-- A frame under way, and a turn that finds none. -/
theorem test_meets_FrameTurnTakesOneFrameWhenEnabled :
    let s := { bench (busyCtrl 1) with agenda := [.frame .spi1] }
    let s' := { bench (busyCtrl 0) with agenda := [.frame .spi1] }
    s.refusal = none ∧ s.agenda = .frame .spi1 :: [] ∧
      ((s.ctrl.get .spi1).busy = true ∧ 0 < (s.ctrl.get .spi1).framesLeft) ∧
      s'.refusal = none ∧ s'.agenda = .frame .spi1 :: [] ∧
      ¬ ((s'.ctrl.get .spi1).busy = true ∧ 0 < (s'.ctrl.get .spi1).framesLeft) := by decide

/-- What the outside supplies when every draw is 0. -/
def quietInputs : FrameInputs := ⟨0, false, false, 0x11, 0⟩

theorem test_meets_TransferRunsToTheFullBlock :
    (busyCtrl 2).busy = true ∧ [quietInputs, quietInputs].length = (busyCtrl 2).framesLeft := by decide

theorem test_meets_OneWordForFourFramesUnderruns :
    let c := { busyCtrl 4 with txq := [0xEFBEADDE] }
    c.lat.txEn = true ∧ c.txq = [0xEFBEADDE] ∧ c.wire = [] := by decide

/-- As many frames as the FIFO holds. -/
theorem test_meets_ReceivedBytesFillTheRxFifo :
    let c := { busyCtrl 64 with lat := ⟨false, true, false⟩ }
    let is := List.replicate 64 quietInputs
    c.lat.rxEn = true ∧ c.lat.txEn = false ∧ c.rxq = [] ∧ is.length ≤ Config.defaults.fifoDepth ∧
      ∀ i ∈ is, i.genericError = false := by decide

theorem test_meets_CompletionSetsReadyAndClearsBusy :
    let s := { bench (busyCtrl 0) with agenda := [.complete .spi1] }
    let s' := { bench (busyCtrl 1) with agenda := [.complete .spi1] }
    s.refusal = none ∧ s.agenda = .complete .spi1 :: [] ∧
      ((s.ctrl.get .spi1).busy = true ∧ (s.ctrl.get .spi1).framesLeft = 0) ∧
      s'.refusal = none ∧ s'.agenda = .complete .spi1 :: [] ∧
      ¬ ((s'.ctrl.get .spi1).busy = true ∧ (s'.ctrl.get .spi1).framesLeft = 0) := by decide

theorem test_meets_FlushCompletionEmptiesItsFifo :
    let c := { idleCtrl with flushTx := true, flushRx := true }
    let s := { bench c with agenda := [.flushTx .spi1] }
    let s' := { bench c with agenda := [.flushRx .spi1] }
    s.refusal = none ∧ s.agenda = .flushTx .spi1 :: [] ∧ (s.ctrl.get .spi1).flushTx = true ∧
      s'.refusal = none ∧ s'.agenda = .flushRx .spi1 :: [] ∧ (s'.ctrl.get .spi1).flushRx = true := by decide

/-- The last line, selected and not, by software and by hardware. -/
theorem test_meets_ChipSelectLevelsFollowCommand1 :
    3 < 4 ∧ 3 = ((0x0C200000 : Word).extractLsb' 26 2).toNat ∧ (0x0C200000 : Word).getLsbD 21 = true ∧
      3 = ((0x0C000000 : Word).extractLsb' 26 2).toNat ∧ (0x0C000000 : Word).getLsbD 21 = false ∧
      3 ≠ ((0x03E00007 : Word).extractLsb' 26 2).toNat := by decide

/-- The clause on words, and step 8 of a SEND, which sets TX_EN. -/
theorem test_meets_RmwChangesOnlyTheNamedFields :
    ((0x7FFFF83F : Word) &&& ~~~(0x7FFFF83F : Word) = 0 ∧ (0x00000800 : Word).getLsbD 31 = false) ∧
    (let s := engineBench (running .send 8) idleCtrl
     s.cfg = Config.defaults ∧ s.refusal = none ∧ s.engineEnabled .spi1 = true ∧ (s.ctrl.get .spi1).busy = false ∧
      (s.ctrl.get .spi1).command1 &&& ~~~(0x7FFFF83F : Word) = 0 ∧ (0x00000800 : Word).getLsbD 31 = false ∧
      (s.eng.get .spi1).micro? s.cfg = some .readCommand1 ∧
      Engine.micro? s.cfg { s.eng.get .spi1 with pc := (s.eng.get .spi1).pc + 1 }
        = some (.writeCommand1 0 0x00000800)) := by decide

/-- Step 18 and step 3 of a SEND. -/
theorem test_meets_PollRepeatsUntilItsConditionHolds :
    let s := engineBench (running .send 18) { busyCtrl 2 with rdy := false }
    let s' := engineBench (running .send 3) { idleCtrl with flushTx := true }
    (s.refusal = none ∧ s.agenda = .engine .spi1 :: [] ∧ s.engineEnabled .spi1 = true ∧
      ((s.eng.get .spi1).micro? s.cfg = some (.pollTransStatus 0x40000000 0x40000000) ∧
        Instr.rdTransStatus .spi1 = .rdTransStatus .spi1)) ∧
    (s'.refusal = none ∧ s'.agenda = .engine .spi1 :: [] ∧ s'.engineEnabled .spi1 = true ∧
      ((s'.eng.get .spi1).micro? s'.cfg = some (.pollFifoStatus 0x0000C000 0) ∧
        Instr.rdFifoStatus .spi1 = .rdFifoStatus .spi1)) := by decide

/-- Step 18 of a SEND, with RDY 0 and with RDY 1. -/
theorem test_meets_ReadyWaitEndsOnlyOnReady :
    let s := engineBench (running .send 18) { busyCtrl 2 with rdy := false }
    let s' := engineBench (running .send 18) idleCtrl
    (s.agenda = .engine .spi1 :: [] ∧ s.cfg.rdy < 32 ∧ s.engineEnabled .spi1 = true ∧
      (s.eng.get .spi1).micro? s.cfg = some (.pollTransStatus (mRdy s.cfg) (mRdy s.cfg)) ∧
      (s.ctrl.get .spi1).stale = false ∧ ∃ t, step s = .next t) ∧
    (s'.agenda = .engine .spi1 :: [] ∧ s'.cfg.rdy < 32 ∧ s'.engineEnabled .spi1 = true ∧
      (s'.eng.get .spi1).micro? s'.cfg = some (.pollTransStatus (mRdy s'.cfg) (mRdy s'.cfg)) ∧
      (s'.ctrl.get .spi1).stale = false ∧ ∃ t, step s' = .next t) :=
  ⟨⟨rfl, by decide, rfl, by decide, rfl, _, rfl⟩, rfl, by decide, rfl, by decide, rfl, _, rfl⟩

/-- A controller's turn beside a running command, and a poll of that command that fails. -/
theorem test_meets_RunningCommandIsNotCancelled :
    let s := engineBench (running .send 18) { busyCtrl 2 with rdy := false }
    let s' := { s with agenda := [.frame .spi1] }
    ((∃ t, step s' = .next t) ∧ (s'.eng.get .spi1).busyCmd = true ∧ s'.turn ≠ .engine .spi1) ∧
    ((∃ t, step s = .next t ∧ t.rdata &&& 0x40000000 ≠ 0x40000000) ∧ (s.eng.get .spi1).busyCmd = true ∧
      s.turn = .engine .spi1 ∧
      (s.eng.get .spi1).micro? s.cfg = some (.pollTransStatus 0x40000000 0x40000000)) :=
  ⟨⟨⟨_, rfl⟩, rfl, by decide⟩, ⟨_, rfl, by decide⟩, rfl, rfl, by decide⟩

/-- Step 12 of a SEND, two microseconds after its first counter read. -/
theorem test_meets_DelayLastsAtLeastItsMicroseconds :
    let s := engineBench { running .send 12 with t0 := 98 } idleCtrl
    s.agenda = .engine .spi1 :: [] ∧ s.engineEnabled .spi1 = true ∧
      (s.eng.get .spi1).micro? s.cfg = some (.delayWait 2) ∧ (s.eng.get .spi1).t0 = counterWord s.tmr 98 ∧ 98 ≤ s.now ∧
      after (step s) (fun t => (t.eng.get .spi1).pc) = some ((s.eng.get .spi1).pc + 1) := by decide

/-- The shortest drain. -/
theorem test_meets_DrainReturnsTheLowBytesInOrder :
    let s := engineBench { running .receive 22 with len := 1 } { idleCtrl with rxq := [0xFFFFFF5A] }
    s.refusal = none ∧ s.engineEnabled .spi1 = true ∧ (s.eng.get .spi1).op = .receive ∧ (s.eng.get .spi1).pc = 22 ∧
      (s.eng.get .spi1).k = 0 ∧ (s.eng.get .spi1).out = [] ∧ 1 ≤ (s.eng.get .spi1).len ∧
      (s.ctrl.get .spi1).flushRx = false ∧ (s.ctrl.get .spi1).rxq.length = (s.eng.get .spi1).len := by decide

/-- P1's start. -/
theorem test_meets_InitConfiguresTheController :
    let s := bench { idleCtrl with command1 := 0x03C00000, txq := [0xAA] }
    s.cfg = Config.defaults ∧ s.refusal = none ∧ s.halted (.engine .spi1) = false ∧
      (s.eng.get .spi1).busyCmd = false ∧ (s.eng.get .spi1).initialized = false ∧
      (s.ctrl.get .spi1).busy = false ∧ (s.ctrl.get .spi1).rdy = true ∧ (s.ctrl.get .spi1).stale = false ∧
      (s.ctrl.get .spi1).command1 &&& ~~~(0x7FFFF83F : Word) = 0 := by decide

/-- P7's start. -/
theorem test_meets_FlushFifosEmptiesBothFifos :
    let s := bench { idleCtrl with txq := [0x11], rxq := [0x22, 0x33] }
    s.cfg = Config.defaults ∧ s.refusal = none ∧ s.halted (.engine .spi1) = false ∧
      (s.eng.get .spi1).busyCmd = false ∧ (s.ctrl.get .spi1).busy = false ∧ (s.ctrl.get .spi1).rdy = true ∧
      (s.ctrl.get .spi1).stale = false := by decide

/-- A state at the start of a SEND or a RECEIVE, after INIT. -/
def commandBench (c : Ctrl) : State := { engineBench { Engine.reset .zero with initialized := true } c with agenda := [] }

/-- P2's start, with what an earlier transfer may have left. -/
theorem test_meets_SendTriggersABlockOfFour :
    let s := commandBench { idleCtrl with txq := full, rxq := [1], tLastw := some 100 }
    s.cfg = Config.defaults ∧ s.refusal = none ∧ s.halted (.engine .spi1) = false ∧
      (s.eng.get .spi1).busyCmd = false ∧ (s.eng.get .spi1).initialized = true ∧ (s.ctrl.get .spi1).busy = false ∧
      (s.ctrl.get .spi1).rdy = true ∧ (s.ctrl.get .spi1).stale = false ∧
      (s.ctrl.get .spi1).command1 &&& ~~~(0x7FFFF83F : Word) = 0 ∧ (s.ctrl.get .spi1).command1.getLsbD 21 = true := by
  decide

/-- The longest and the shortest block. -/
theorem test_meets_ReceiveTriggersABlockOfItsLength :
    let s := commandBench { idleCtrl with txq := full, rxq := [1], tLastw := some 100 }
    (s.cfg = Config.defaults ∧ s.refusal = none ∧ s.halted (.engine .spi1) = false ∧
      (s.eng.get .spi1).busyCmd = false ∧ (s.eng.get .spi1).initialized = true ∧ (s.ctrl.get .spi1).busy = false ∧
      (s.ctrl.get .spi1).rdy = true ∧ (s.ctrl.get .spi1).stale = false ∧
      (s.ctrl.get .spi1).command1 &&& ~~~(0x7FFFF83F : Word) = 0 ∧ (s.ctrl.get .spi1).command1.getLsbD 21 = true) ∧
    (1 ≤ (1 : BitVec 16).toNat ∧ (1 : BitVec 16).toNat ≤ 64) ∧ (1 ≤ (64 : BitVec 16).toNat ∧ (64 : BitVec 16).toNat ≤ 64) := by
  decide

/-- Right after the trigger in the microsecond of the state, the block already shifted: with ERR 0 and with ERR 1. -/
theorem test_meets_SendEndsByItsErrorCheck :
    let s := engineBench (running .send 15) { idleCtrl with stale := true, tTrig := 100 }
    let s' := engineBench (running .send 15) { idleCtrl with stale := true, tTrig := 100, err := true, txUnf := true }
    (s.cfg = Config.defaults ∧ s.refusal = none ∧ s.engineEnabled .spi1 = true ∧ (s.eng.get .spi1).op = .send ∧
      (s.eng.get .spi1).pc = 15 ∧ (s.ctrl.get .spi1).busy = false ∧ (s.ctrl.get .spi1).rdy = true ∧
      (s.ctrl.get .spi1).tTrig ≤ s.now ∧ (s.ctrl.get .spi1).command1 &&& ~~~(0x7FFFF83F : Word) = 0 ∧
      (s.ctrl.get .spi1).err = false) ∧
    (s'.cfg = Config.defaults ∧ s'.refusal = none ∧ s'.engineEnabled .spi1 = true ∧ (s'.eng.get .spi1).op = .send ∧
      (s'.eng.get .spi1).pc = 15 ∧ (s'.ctrl.get .spi1).busy = false ∧ (s'.ctrl.get .spi1).rdy = true ∧
      (s'.ctrl.get .spi1).tTrig ≤ s'.now ∧ (s'.ctrl.get .spi1).command1 &&& ~~~(0x7FFFF83F : Word) = 0 ∧
      (s'.ctrl.get .spi1).err = true) := by decide

/-- As above, with one byte received. -/
theorem test_meets_ReceiveEndsByItsErrorCheck :
    let e := { running .receive 14 with len := 1 }
    let s := engineBench e { idleCtrl with stale := true, tTrig := 100, rxq := [0xFFFFFF5A] }
    let s' := engineBench e { idleCtrl with stale := true, tTrig := 100, err := true, rxOvf := true }
    (s.cfg = Config.defaults ∧ s.refusal = none ∧ s.engineEnabled .spi1 = true ∧ (s.eng.get .spi1).op = .receive ∧
      (s.eng.get .spi1).pc = 14 ∧ (s.ctrl.get .spi1).busy = false ∧ (s.ctrl.get .spi1).rdy = true ∧
      (s.ctrl.get .spi1).tTrig ≤ s.now ∧ (s.ctrl.get .spi1).command1 &&& ~~~(0x7FFFF83F : Word) = 0 ∧
      (s.ctrl.get .spi1).err = false ∧ (s.ctrl.get .spi1).flushRx = false ∧ 1 ≤ (s.eng.get .spi1).len ∧
      (s.ctrl.get .spi1).rxq.length = (s.eng.get .spi1).len) ∧
    (s'.cfg = Config.defaults ∧ s'.refusal = none ∧ s'.engineEnabled .spi1 = true ∧ (s'.eng.get .spi1).op = .receive ∧
      (s'.eng.get .spi1).pc = 14 ∧ (s'.ctrl.get .spi1).busy = false ∧ (s'.ctrl.get .spi1).rdy = true ∧
      (s'.ctrl.get .spi1).tTrig ≤ s'.now ∧ (s'.ctrl.get .spi1).command1 &&& ~~~(0x7FFFF83F : Word) = 0 ∧
      (s'.ctrl.get .spi1).err = true) := by decide

/-- Engines of each kind of the first clause, a frame of a SEND's transfer, the error check of a SEND, and the step after it
that ends the SEND. -/
theorem test_meets_NoSendSucceeds :
    let r := { engineBench (running .send 18) { busyCtrl 4 with rdy := false, txq := [1] } with agenda := [.frame .spi1] }
    let s := engineBench (running .send 21) { idleCtrl with err := true }
    let s' := engineBench (running .send 22) { idleCtrl with err := true }
    ((ready.eng.get .spi1).busyCmd = false ∧ ((engineBench (running .receive 5) idleCtrl).eng.get .spi1).op ≠ .send ∧
      ((engineBench (running .send 2) idleCtrl).eng.get .spi1).pc ≤ 2) ∧
    (r.cfg = Config.defaults ∧ SendFails .spi1 r ∧ ∃ t, step r = .next t) ∧
    (s.cfg = Config.defaults ∧ SendFails .spi1 s ∧ ∃ t, step s = .next t) ∧
    (s'.cfg = Config.defaults ∧ SendFails .spi1 s' ∧ (s'.eng.get .spi1).busyCmd = true ∧ (s'.eng.get .spi1).op = .send ∧
      ∃ t, step s' = .next t ∧ (t.eng.get .spi1).busyCmd = false) :=
  ⟨⟨rfl, by decide, by decide⟩,
    ⟨rfl, fun _ _ => ⟨⟨by decide, .inl ⟨rfl, rfl, rfl, rfl, .inl ⟨rfl, rfl⟩⟩⟩, rfl⟩, ⟨_, rfl⟩⟩,
    ⟨rfl, fun _ _ => ⟨rfl, rfl⟩, ⟨_, rfl⟩⟩, ⟨rfl, fun _ _ => trivial, rfl, rfl, ⟨_, rfl, rfl⟩⟩⟩

theorem test_meets_DecodeInvertsEncode : Config.defaults.bus.wf = true := by decide

/-- A descriptor for each verdict, at the boundary values of BLK, and a command word that is not well formed. -/
theorem test_meets_DecoderAcceptsExactlyTheTable :
    let blk := fun d : BitVec 16 => (d.extractLsb' 12 3).toNat
    let off := fun d : BitVec 16 => d.extractLsb' 0 12
    ((off 0x4002).toNat % 4 ≠ 0 ∧ blk 0x4002 ≤ 4) ∧ ((off 0x5001).toNat % 4 ≠ 0 ∧ ¬ blk 0x5001 ≤ 4) ∧
    ((off 0x5000).toNat % 4 = 0 ∧ 4 < blk 0x5000) ∧
    ((off 0x4008).toNat % 4 = 0 ∧ blk 0x4008 = 4 ∧ off 0x4008 ∉ [0x000, 0x004, 0x03C]) ∧
    ((off 0x3108).toNat % 4 = 0 ∧ blk 0x3108 < 4 ∧ off 0x3108 = 0x108 ∧ (0x3108 : BitVec 16).getLsbD 15 = false) ∧
    ((off 0xB188).toNat % 4 = 0 ∧ blk 0xB188 < 4 ∧ off 0xB188 = 0x188 ∧ (0xB188 : BitVec 16).getLsbD 15 = true) ∧
    ((off 0x3FFC).toNat % 4 = 0 ∧ blk 0x3FFC < 4 ∧ off 0x3FFC ∉ [0x000, 0x010, 0x014, 0x024, 0x108, 0x188]) ∧
    cmdWellFormed 0x00000010 = false := by decide

/-- One address for each clause, at the ends of the blocks. -/
theorem test_meets_PhysicalAccessDecodesByItsBlock :
    let b := Config.defaults.bus
    b.wf = true ∧ 64 ≠ 32 ∧ (0x7000D401 : Word).toNat % 4 ≠ 0 ∧
      ((0x7000DBFC : Word).toNat % 4 = 0 ∧ (b.spiBase.get .spi4).toNat ≤ (0x7000DBFC : Word).toNat ∧
        (0x7000DBFC : Word).toNat < (b.spiBase.get .spi4).toNat + b.spiBlockBytes) ∧
      ((0x6000504C : Word).toNat % 4 = 0 ∧ b.tmrBase.toNat ≤ (0x6000504C : Word).toNat ∧
        (0x6000504C : Word).toNat < b.tmrBase.toNat + 0x40) ∧
      ((0x7000DC00 : Word).toNat % 4 = 0 ∧
        (∀ h, ¬ ((b.spiBase.get h).toNat ≤ (0x7000DC00 : Word).toNat ∧
          (0x7000DC00 : Word).toNat < (b.spiBase.get h).toNat + b.spiBlockBytes)) ∧
        ¬ (b.tmrBase.toNat ≤ (0x7000DC00 : Word).toNat ∧ (0x7000DC00 : Word).toNat < b.tmrBase.toNat + 0x40)) := by
  refine ⟨by decide, by decide, by decide, by decide, by decide, by decide, fun h => ?_, by decide⟩
  cases h <;> decide

theorem test_meets_StepRunsTheIssuedInstruction :
    let s := { State.reset with agenda := [.master 0 (.phys 0x7000D400 32 none)] }
    let s' := { State.reset with agenda := [.host 0x00000000 []] }
    (s.refusal = none ∧ s.agenda = .master 0 (.phys 0x7000D400 32 none) :: [] ∧
      decodeAccess s.cfg (.phys 0x7000D400 32 none) = .ok (.rdCommand1 .spi1) ∧ s.halted (.master 0) = false) ∧
    (s'.refusal = none ∧ s'.agenda = .host 0x00000000 [] :: [] ∧ decodeCmd 0x00000000 [] = .ok (.init .spi1)) :=
  ⟨⟨rfl, rfl, rfl, rfl⟩, rfl, rfl, rfl⟩

theorem test_meets_FaultedAgentTakesNoStep :
    let s := { engineBench (running .send 14) idleCtrl with faults := [⟨.engine .spi1, .hazardSettle .spi1⟩] }
    let s' := { s with agenda := [.master 0 (.acc 0x0000 0)], faults := [⟨.master 0, .badWidth 0⟩] }
    (s.refusal = none ∧ s.agenda = .engine .spi1 :: [] ∧ s.halted (.engine .spi1) = true) ∧
    (s'.refusal = none ∧ s'.agenda = .master 0 (.acc 0x0000 0) :: [] ∧ s'.halted (.master 0) = true) := by decide

/-- A step from a state with a fault, and a refused state. -/
theorem test_meets_FaultsAndRefusalAreNeverCleared :
    (∃ s t : State, step s = .next t ∧ ∃ r, r ∈ s.faults) ∧ ∃ (s : State) (r : Refusal), s.refusal = some r :=
  ⟨⟨{ bench idleCtrl with faults := [⟨.master 0, .badWidth 0⟩], agenda := [.time] }, _, rfl, _, List.mem_cons_self⟩,
    ⟨{ State.reset with refusal := some .timerCounterWrite }, _, rfl⟩⟩

theorem test_meets_WireHistoryOnlyGrows :
    ∃ t, step { bench (busyCtrl 4) with agenda := [.frame .spi1] } = .next t := ⟨_, rfl⟩

theorem test_meets_InstancesShareNoState :
    Handle.spi2 ≠ Handle.spi1 ∧
      (∃ t, exec (.wrTxFifo .spi1 1) (bench idleCtrl) = .next t) ∧ accessedCtrl (.wrTxFifo .spi1 1) = some .spi1 ∧
      (∃ t, exec (.receive .spi1 1) (bench idleCtrl) = .next t) ∧
      (∃ t, takeTurn (.engine .spi1) (engineBench (running .init 1) idleCtrl) = .next t) :=
  ⟨by decide, ⟨_, rfl⟩, rfl, ⟨_, rfl⟩, ⟨_, rfl⟩⟩

/-- The Time agent's turn and another one. -/
theorem test_meets_OnlyTimeMovesTheCounter :
    (∃ t, step { State.reset with agenda := [.time] } = .next t) ∧ State.turn { State.reset with agenda := [.time] } = .time ∧
      (∃ t, step { State.reset with agenda := [.complete .spi1] } = .next t) ∧
      State.turn { State.reset with agenda := [.complete .spi1] } ≠ .time :=
  ⟨⟨_, rfl⟩, rfl, ⟨_, rfl⟩, by decide⟩

/-- A state in the middle of a SEND's transfer. -/
theorem test_meets_EveryStepKeepsTheInvariant :
    let s := { engineBench (running .send 18) { busyCtrl 4 with rdy := false } with agenda := [.frame .spi1] }
    s.Ok ∧ ∃ t, step s = .next t := by
  refine ⟨⟨fun h => ?_, fun h => ?_, rfl, List.nodup_nil⟩, _, rfl⟩
  · cases h <;> exact ⟨by decide, by decide, by decide, by decide, by decide, by decide, by decide, by decide, by decide,
      (fun t e => by cases e), by decide, by decide⟩
  · cases h <;> exact ⟨by decide, by decide, by decide, by decide, by decide⟩

theorem test_meets_ResetMeetsTheInvariant : ResetDraws.zero.Admitted Config.defaults := by
  intro h
  cases h <;> exact ⟨by decide, by decide, by decide, by decide⟩

/-! ### Infinite runs: the turns of a short list, then Time for ever -/

/-- The state after a turn. -/
def nextBy (u : Turn) (s : State) : State := (after (step { s with agenda := [u] }) id).getD s

/-- Whose turn it is in the run. -/
def turns (pre : List Turn) (n : Nat) : Turn := (pre[n]?).getD .time

/-- The states of the run. -/
def states (pre : List Turn) (s : State) : Nat → State
  | 0 => s
  | n + 1 => nextBy (turns pre n) (states pre s n)

/-- A controller's turn or Time's always has a next state from a state with no refusal. -/
theorem nextBy_runs (u : Turn) (s : State) (h : Handle) (hs : s.refusal = none)
    (hu : u = .frame h ∨ u = .complete h ∨ u = .flushTx h ∨ u = .flushRx h ∨ u = .time) :
    step { s with agenda := [u] } = .next (nextBy u s) ∧ (nextBy u s).refusal = none := by
  have run : ∀ v : State, step { s with agenda := [u] } = .next v → v.refusal = none →
      step { s with agenda := [u] } = .next (nextBy u s) ∧ (nextBy u s).refusal = none := fun v e hv => by
    simp only [nextBy, e, after, Option.getD_some, id, hv, and_self]
  have hst : step { s with agenda := [u] } = takeTurn u { s with agenda := [], actor := turnAgent u } := by
    simp only [step, stepOnce, hs]
    rfl
  rcases hu with rfl | rfl | rfl | rfl | rfl
  · refine run _ hst ?_
    simp only [frameStep]
    split
    · simpa only [State.setCtrl_refusal, State.afterDraw_refusal] using hs
    · exact hs
  · refine run _ hst ?_
    simp only [completeStep]
    split <;> exact hs
  · refine run _ hst ?_
    simp only [flushTxStep]
    split <;> exact hs
  · refine run _ hst ?_
    simp only [flushRxStep]
    split <;> exact hs
  · exact run _ hst hs

/-- The run is a run, when its turns are a controller's and Time's. -/
theorem states_driven (pre : List Turn) (s : State) (h : Handle) (hs : s.refusal = none)
    (hp : ∀ n, turns pre n = .frame h ∨ turns pre n = .complete h ∨ turns pre n = .flushTx h ∨ turns pre n = .flushRx h ∨
      turns pre n = .time) :
    Driven (turns pre) (states pre s) := by
  have hr : ∀ n, (states pre s n).refusal = none := by
    intro n
    induction n with
    | zero => exact hs
    | succ n ih => exact (nextBy_runs _ _ h ih (hp n)).2
  exact fun n => (nextBy_runs _ _ h (hr n) (hp n)).1

/-- Time changes no controller. -/
theorem nextBy_time_ctrl (s : State) (hs : s.refusal = none) : (nextBy .time s).ctrl = s.ctrl := by
  simp [nextBy, step, stepOnce, hs, after, takeTurn, timeStep, State.begin, State.turn, State.afterTurn, State.as]

/-- A run whose controller is quiet after its first two turns is fair to it. -/
theorem states_healthy (u v : Turn) (s : State) (h : Handle) (hs : s.refusal = none)
    (hu : u = .frame h ∨ u = .flushTx h ∨ u = .flushRx h) (hv : v = .complete h ∨ v = .time)
    (hq : ((states [u, v] s 2).ctrl.get h).quiet = true) :
    Driven (turns [u, v]) (states [u, v] s) ∧ Healthy h (turns [u, v]) (states [u, v] s) ∧
      TimeFair (turns [u, v]) (states [u, v] s) := by
  have hp : ∀ n, turns [u, v] n = .frame h ∨ turns [u, v] n = .complete h ∨ turns [u, v] n = .flushTx h ∨
      turns [u, v] n = .flushRx h ∨ turns [u, v] n = .time := by
    rintro (_ | _ | n)
    · rcases hu with e | e | e
      exacts [.inl e, .inr (.inr (.inl e)), .inr (.inr (.inr (.inl e)))]
    · rcases hv with e | e
      exacts [.inr (.inl e), .inr (.inr (.inr (.inr e)))]
    · exact .inr (.inr (.inr (.inr rfl)))
  have hd := states_driven [u, v] s h hs hp
  have hr : ∀ n, (states [u, v] s n).refusal = none := by
    intro n
    induction n with
    | zero => exact hs
    | succ n ih => exact (nextBy_runs _ _ h ih (hp n)).2
  have hc : ∀ n, (states [u, v] s (n + 2)).ctrl = (states [u, v] s 2).ctrl := by
    intro n
    induction n with
    | zero => rfl
    | succ n ih => exact (nextBy_time_ctrl _ (hr (n + 2))).trans ih
  have hquiet : ∀ n, ((states [u, v] s (n + 2)).ctrl.get h).quiet = true := fun n => by rw [hc]; exact hq
  have off : ∀ (f : Ctrl → Bool) (t : Turn), (∀ c : Ctrl, c.quiet = true → f c = false) →
      WeaklyFair (fun s => f (s.ctrl.get h)) t (turns [u, v]) (states [u, v] s) := by
    intro f t hf n he
    have := (hf _ (hquiet n)).symm.trans (he (n + 2) (by omega))
    cases this
  refine ⟨hd, ⟨off _ _ ?_, off _ _ ?_, off _ _ ?_, off _ _ ?_⟩, fun n _ => ⟨n + 2, by omega, rfl⟩⟩ <;> intro c hcq <;>
    simp only [Ctrl.quiet, Bool.and_eq_true, Bool.not_eq_true'] at hcq <;>
    simp [Ctrl.frameEnabled, Ctrl.completeEnabled, hcq]

/-- A transfer with one frame left. -/
theorem test_meets_HealthyControllerCompletesItsTransfer :
    ∃ (τ : Nat → Turn) (σ : Nat → State), Driven τ σ ∧ Healthy .spi1 τ σ ∧ ((σ 0).ctrl.get .spi1).busy = true :=
  have w := states_healthy (.frame .spi1) (.complete .spi1) (bench (busyCtrl 1)) .spi1 rfl (.inl rfl) (.inl rfl) (by decide)
  ⟨_, _, w.1, w.2.1, rfl⟩

/-- A flush of each FIFO. -/
theorem test_meets_HealthyControllerCompletesItsFlush :
    (∃ (τ : Nat → Turn) (σ : Nat → State), Driven τ σ ∧ Healthy .spi1 τ σ ∧ ((σ 0).ctrl.get .spi1).flushTx = true) ∧
    ∃ (τ : Nat → Turn) (σ : Nat → State), Driven τ σ ∧ Healthy .spi1 τ σ ∧ ((σ 0).ctrl.get .spi1).flushRx = true :=
  have w := states_healthy (.flushTx .spi1) .time (bench { idleCtrl with flushTx := true, txq := [1] }) .spi1 rfl
    (.inr (.inl rfl)) (.inr rfl) (by decide)
  have w' := states_healthy (.flushRx .spi1) .time (bench { idleCtrl with flushRx := true, rxq := [1] }) .spi1 rfl
    (.inr (.inr rfl)) (.inr rfl) (by decide)
  ⟨⟨_, _, w.1, w.2.1, rfl⟩, _, _, w'.1, w'.2.1, rfl⟩

theorem test_meets_TimeGrowsWithoutBound :
    ∃ (τ : Nat → Turn) (σ : Nat → State), Driven τ σ ∧ TimeFair τ σ :=
  have w := states_healthy (.frame .spi1) (.complete .spi1) (bench (busyCtrl 1)) .spi1 rfl (.inl rfl) (.inl rfl) (by decide)
  ⟨_, _, w.1, w.2.2⟩

end Sys2Proof.Tests
end

section
/-! The bytes of a SEND word (R64, R188): `pack` as shifts, `unpack` field by field, and the two inverse laws. -/

namespace Sys2Proof.Machine

theorem or_reverse (x3 x2 x1 x0 : Word) : x3 ||| x2 ||| x1 ||| x0 = x0 ||| x1 ||| x2 ||| x3 := by ac_rfl

theorem pack_eq_shifts (b : TxBuf) :
    pack b = b.b0.setWidth 32 ||| b.b1.setWidth 32 <<< 8 ||| b.b2.setWidth 32 <<< 16 ||| b.b3.setWidth 32 <<< 24 := by
  calc
    pack b = (b.b3 ++ b.b2 ++ b.b1 ++ b.b0).setWidth 32 := (BitVec.setWidth_eq _).symm
    _ = ((b.b3.setWidth 32 <<< 8 ||| b.b2.setWidth 32) <<< 8 ||| b.b1.setWidth 32) <<< 8 ||| b.b0.setWidth 32 := by
      simp only [BitVec.setWidth_append_eq_shiftLeft_setWidth_or]
    _ = b.b3.setWidth 32 <<< 24 ||| b.b2.setWidth 32 <<< 16 ||| b.b1.setWidth 32 <<< 8 ||| b.b0.setWidth 32 := by
      simp only [BitVec.shiftLeft_or_distrib, ← BitVec.shiftLeft_add]
    _ = _ := or_reverse _ _ _ _

theorem lowByte_eq_extractLsb' (w : Word) : lowByte w = w.extractLsb' 0 8 := rfl

theorem unpack_eq_fields (w : Word) :
    unpack w = ⟨w.extractLsb' 0 8, w.extractLsb' 8 8, w.extractLsb' 16 8, w.extractLsb' 24 8⟩ := rfl

@[simp] theorem unpack_pack (b : TxBuf) : unpack (pack b) = b := by
  obtain ⟨b0, b1, b2, b3⟩ := b
  have h0 : (b3 ++ b2 ++ b1 ++ b0).extractLsb' 0 8 = b0 := BitVec.extractLsb'_append_eq_right
  have h1 : (b3 ++ b2 ++ b1 ++ b0).extractLsb' 8 8 = b1 := by
    rw [BitVec.extractLsb'_append_eq_of_le (by decide)]
    exact BitVec.extractLsb'_append_eq_right
  have h2 : (b3 ++ b2 ++ b1 ++ b0).extractLsb' 16 8 = b2 := by
    rw [BitVec.extractLsb'_append_eq_of_le (by decide), BitVec.extractLsb'_append_eq_of_le (by decide)]
    exact BitVec.extractLsb'_append_eq_right
  have h3 : (b3 ++ b2 ++ b1 ++ b0).extractLsb' 24 8 = b3 := by
    rw [BitVec.extractLsb'_append_eq_of_le (by decide), BitVec.extractLsb'_append_eq_of_le (by decide)]
    exact BitVec.extractLsb'_append_eq_left
  simp only [unpack_eq_fields, pack, h0, h1, h2, h3]

/-- Adjacent fields join, from the high byte down, until the field is the whole word. -/
@[simp] theorem pack_unpack (w : Word) : pack (unpack w) = w := by
  have hHigh : w.extractLsb' 24 8 ++ w.extractLsb' 16 8 = w.extractLsb' 16 16 :=
    BitVec.extractLsb'_append_extractLsb'_eq_extractLsb' rfl
  have hUpper : w.extractLsb' 16 16 ++ w.extractLsb' 8 8 = w.extractLsb' 8 24 :=
    BitVec.extractLsb'_append_extractLsb'_eq_extractLsb' rfl
  have hAll : w.extractLsb' 8 24 ++ w.extractLsb' 0 8 = w.extractLsb' 0 32 :=
    BitVec.extractLsb'_append_extractLsb'_eq_extractLsb' rfl
  calc
    pack (unpack w) = w.extractLsb' 24 8 ++ w.extractLsb' 16 8 ++ w.extractLsb' 8 8 ++ w.extractLsb' 0 8 := rfl
    _ = w.extractLsb' 0 32 := by rw [hHigh, hUpper, hAll]
    _ = w := BitVec.extractLsb'_eq_self

/-- Settles O44: the shifts are `pack_eq_shifts`, the inverse laws join and cut the four byte fields. -/
theorem packingIsLittleEndianAndInvertible : Obligations.PackingIsLittleEndianAndInvertible :=
  ⟨pack_eq_shifts, fun w => ⟨unpack_eq_fields w, lowByte_eq_extractLsb' w⟩, unpack_pack, pack_unpack⟩

end Sys2Proof.Machine
end

section
/-! A read of the block-size register (R107): what the returned word holds, and that only the draws move. -/

namespace Sys2Proof.Machine

open Sys2Proof.Config (Params)

theorem State.afterDraw_eq (s : State) :
    s.afterDraw = { s with script := s.afterDraw.script, drawIx := s.afterDraw.drawIx } := by
  unfold State.afterDraw
  split <;> rfl

/-- The bits of a field come from the first word where the mask is the field's own. -/
theorem getField_mergeBits_fieldMask (a b : Word) (lo len : Nat) (hfit : lo + len ≤ 32) :
    getField (mergeBits (fieldMask lo len) a b) lo len = getField a lo len := by
  apply BitVec.eq_of_getLsbD_eq
  intro i hi
  have hmask : (fieldMask lo len).getLsbD (lo + i) = true := by
    rw [getLsbD_fieldMask]
    simp only [Bool.and_eq_true, decide_eq_true_eq]
    omega
  simp only [getField, BitVec.getLsbD_extractLsb', hi, decide_true, Bool.true_and]
  rw [getLsbD_mergeBits _ _ _ _ (by omega), if_pos hmask]

theorem getField_blkSizeWord (p : Params) (stored draw : Word) (hfit : p.blkSizeBits ≤ 32) :
    getField (blkSizeWord p stored draw) 0 p.blkSizeBits = getField stored 0 p.blkSizeBits :=
  getField_mergeBits_fieldMask stored draw 0 p.blkSizeBits (by omega)

/-- What a permitted read of the register does, for every width of the field. -/
theorem exec_rdBlkSize {s : State} {h : Handle} (hacc : s.mayAccess h = true) :
    exec (.rdBlkSize h) s = .next { s with
      rdata := blkSizeWord s.cfg (s.ctrl.get h).blkSize s.drawn
      script := s.afterDraw.script
      drawIx := s.afterDraw.drawIx } := by
  calc
    exec (.rdBlkSize h) s = execRdBlkSize h s := rfl
    _ = .next (s.afterDraw.returnRead (blkSizeWord s.cfg (s.ctrl.get h).blkSize s.drawn)) := by
      rw [execRdBlkSize, accessCtrl_of_mayAccess _ hacc]
    _ = _ := by rw [State.afterDraw_eq]; rfl

/-- Settles O9: the default width is 16, so `getField_blkSizeWord` speaks of the low 16 bits. -/
theorem readBlkSizeReturnsField : Obligations.ReadBlkSizeReturnsField := by
  intro s h hcfg hacc
  refine ⟨_, _, _, exec_rdBlkSize hacc, ?_⟩
  rw [hcfg]
  exact getField_blkSizeWord Config.defaults (s.ctrl.get h).blkSize s.drawn (by decide)

end Sys2Proof.Machine
end

section
/-! What a step leaves of a running engine (R170, R185): nothing but the engine's own turn changes it. -/

namespace Sys2Proof.Machine

open Sys2Proof.Config (Turn)

/-! ## The controllers' own steps -/

@[simp] theorem frameStep_eng (h : Handle) (s : State) : (frameStep h s).eng = s.eng := by
  unfold frameStep
  dsimp only
  split <;> simp

@[simp] theorem completeStep_eng (h : Handle) (s : State) : (completeStep h s).eng = s.eng := by
  unfold completeStep
  dsimp only
  split <;> simp

@[simp] theorem flushTxStep_eng (h : Handle) (s : State) : (flushTxStep h s).eng = s.eng := by
  unfold flushTxStep
  dsimp only
  split <;> simp

@[simp] theorem flushRxStep_eng (h : Handle) (s : State) : (flushRxStep h s).eng = s.eng := by
  unfold flushRxStep
  dsimp only
  split <;> simp

/-! ## Instructions and turns -/

theorem OnlyEngine.get_of_ne {k h : Handle} {u t : State} (ht : OnlyEngine k u t) (hne : h ≠ k) :
    t.eng.get h = u.eng.get h := by
  obtain ⟨e, rs, rfl⟩ := ht
  exact PerHandle.get_set_of_ne _ _ hne

/-- A command is accepted by an idle engine only, and no bus access touches an engine. -/
theorem exec_keeps_running {i : Instr} {h : Handle} {s t : State} (hb : (s.eng.get h).busyCmd = true)
    (ht : exec i s = .next t) : t.eng.get h = s.eng.get h := by
  cases hc : accessedCtrl i with
  | some k => rw [(exec_access_effect hc ht).eng]
  | none =>
    cases hm : commandEngine i with
    | none => rw [(exec_timeBase_effect hc hm ht).eng]
    | some k =>
      obtain heng | ⟨hidle, op, n, b, heng, -, -⟩ := (exec_command_effect hm ht).eng
      · rw [heng]
      · have hne : h ≠ k := by
          rintro rfl
          simp [hb] at hidle
        rw [heng, PerHandle.get_set_of_ne _ _ hne]

theorem engineStep_keeps_running {k h : Handle} {s t : State} (hne : h ≠ k) (hb : (s.eng.get h).busyCmd = true)
    (ht : engineStep k s = .next t) : t.eng.get h = s.eng.get h := by
  obtain rfl | ⟨m, -, -, hrun⟩ := engineStep_cases ht
  · rfl
  · obtain ⟨-, honly⟩ | ⟨i, u, -, hu, honly⟩ := runMicro_cases hrun
    · exact honly.get_of_ne hne
    · rw [honly.get_of_ne hne, exec_keeps_running hb hu]

theorem hostStep_keeps_running {c : Word} {bytes : List Byte} {h : Handle} {s t : State}
    (hb : (s.eng.get h).busyCmd = true) (ht : hostStep c bytes s = .next t) : t.eng.get h = s.eng.get h := by
  obtain rfl | ⟨i, -, hi⟩ | ⟨v, -, rfl⟩ := hostStep_cases ht
  · rfl
  · exact exec_keeps_running hb hi
  · simp

theorem masterStep_keeps_running {m : Nat} {a : Config.Access} {h : Handle} {s t : State}
    (hb : (s.eng.get h).busyCmd = true) (ht : masterStep m a s = .next t) : t.eng.get h = s.eng.get h := by
  obtain ⟨-, rfl⟩ | ⟨i, -, hi⟩ | ⟨v, -, rfl⟩ := masterStep_cases ht
  · rfl
  · exact exec_keeps_running hb hi
  · simp

theorem takeTurn_keeps_running {u : Turn} {h : Handle} {s t : State} (hne : u ≠ .engine h)
    (hb : (s.eng.get h).busyCmd = true) (ht : takeTurn u s = .next t) : t.eng.get h = s.eng.get h := by
  cases u with
  | engine k => exact engineStep_keeps_running (fun hk => hne (hk ▸ rfl)) hb ht
  | frame k => cases ht; rw [frameStep_eng]
  | complete k => cases ht; rw [completeStep_eng]
  | flushTx k => cases ht; rw [flushTxStep_eng]
  | flushRx k => cases ht; rw [flushRxStep_eng]
  | time => cases ht; rfl
  | host c bytes => exact hostStep_keeps_running hb ht
  | master m a => exact masterStep_keeps_running hb ht

theorem step_keeps_running {h : Handle} {s t : State} (hne : s.turn ≠ .engine h)
    (hb : (s.eng.get h).busyCmd = true) (ht : step s = .next t) : t.eng.get h = s.eng.get h := by
  have hkeep := takeTurn_keeps_running hne (by rwa [State.begin_eng]) (step_cases ht).2
  rwa [State.begin_eng] at hkeep

end Sys2Proof.Machine
end

section
/-! One step of a poll (R174): a read of a status register, after which the engine moves on or stays. -/

namespace Sys2Proof.Machine

/-- The two polls with the instruction each performs (R174). -/
inductive PollsBy (h : Handle) (mask eq : Word) : Micro → Instr → Prop where
  | transStatus : PollsBy h mask eq (.pollTransStatus mask eq) (.rdTransStatus h)
  | fifoStatus : PollsBy h mask eq (.pollFifoStatus mask eq) (.rdFifoStatus h)

theorem PollsBy.runMicro_eq {h : Handle} {mask eq : Word} {m : Micro} {i : Instr} (hp : PollsBy h mask eq m i)
    (s : State) : runMicro h m s = engineAccess h i s (State.pollNext h mask eq) := by
  cases hp <;> rfl

theorem PollsBy.accessedCtrl_eq {h : Handle} {mask eq : Word} {m : Micro} {i : Instr} (hp : PollsBy h mask eq m i) :
    accessedCtrl i = some h := by
  cases hp <;> rfl

/-- A permitted read of a polled register moves the draws and the value returned, nothing else (R103, R105). -/
theorem PollsBy.exec_eq {h : Handle} {mask eq : Word} {m : Micro} {i : Instr} (hp : PollsBy h mask eq m i)
    {s : State} (hacc : s.mayAccess h = true) : ∃ v, exec i s = .next (s.afterDraw.returnRead v) := by
  cases hp with
  | transStatus => exact ⟨_, by rw [exec, execRdTransStatus, accessCtrl_of_mayAccess _ hacc]⟩
  | fifoStatus => exact ⟨_, by rw [exec, execRdFifoStatus, accessCtrl_of_mayAccess _ hacc]⟩

theorem State.pollNext_eq (h : Handle) (mask eq : Word) (s : State) :
    s.pollNext h mask eq = { s with eng := s.eng.set h { s.eng.get h with
      scratch := s.rdata
      pc := if s.rdata &&& mask = eq then (s.eng.get h).pc + 1 else (s.eng.get h).pc } } := by
  unfold State.pollNext
  dsimp only
  split <;> rfl

/-- A poll of a halted engine, and one whose read is not answered, leave it alone; else `pollNext` keeps its `pc`. -/
theorem engineStep_keeps_failing_poll {h : Handle} {mask eq : Word} {m : Micro} {i : Instr} {s t : State}
    (hp : PollsBy h mask eq m i) (hm : (s.eng.get h).micro? s.cfg = some m) (ht : engineStep h s = .next t)
    (hfail : t.rdata &&& mask ≠ eq) :
    (t.eng.get h).busyCmd = (s.eng.get h).busyCmd ∧ (t.eng.get h).pc = (s.eng.get h).pc := by
  obtain rfl | ⟨m', -, hm', hrun⟩ := engineStep_cases ht
  · exact ⟨rfl, rfl⟩
  · obtain rfl : m = m' := Option.some.inj (hm.symm.trans hm')
    rw [hp.runMicro_eq] at hrun
    obtain ⟨u, hu, hcases⟩ := engineAccess_cases hrun
    have heng : u.eng = s.eng := (exec_access_effect hp.accessedCtrl_eq hu).eng
    obtain ⟨rfl, -⟩ | ⟨-, -, rfl⟩ := hcases
    · rw [heng]
      exact ⟨rfl, rfl⟩
    · rw [State.pollNext_eq] at hfail ⊢
      simp [heng, hfail]

/-- Settles O34: `step_keeps_running` for the turns of the others, `engineStep_keeps_failing_poll` for its own. -/
theorem runningCommandIsNotCancelled : Obligations.RunningCommandIsNotCancelled := by
  intro s t h ht hb
  refine ⟨fun hne => step_keeps_running hne hb ht, fun hturn mask eq hpoll hfail => ?_⟩
  obtain ⟨m, i, hp, hm⟩ : ∃ m i, PollsBy h mask eq m i ∧ (s.eng.get h).micro? s.cfg = some m := by
    obtain hm | hm := hpoll
    · exact ⟨_, _, .transStatus, hm⟩
    · exact ⟨_, _, .fifoStatus, hm⟩
  have hstep : engineStep h s.begin = .next t := by
    have htake := (step_cases ht).2
    rwa [hturn] at htake
  have hstay := engineStep_keeps_failing_poll hp (by rwa [State.begin_eng, State.begin_cfg]) hstep hfail
  rwa [State.begin_eng, hb] at hstay

/-! ## The poll as an equation -/

theorem engineStep_of_enabled {h : Handle} {m : Micro} {s : State} (he : s.engineEnabled h = true)
    (hm : (s.eng.get h).micro? s.cfg = some m) : engineStep h s = runMicro h m s := by
  simp only [engineStep, he, hm, if_true]

theorem State.not_halted_of_engineEnabled {h : Handle} {s : State} (he : s.engineEnabled h = true) :
    s.halted (.engine h) = false := by
  simp only [State.engineEnabled, Bool.and_eq_true, Bool.not_eq_true'] at he
  exact he.2

theorem engineAccess_of_next {h : Handle} {i : Instr} {s u : State} (after : State → State)
    (hu : exec i s = .next u) (hh : u.halted (.engine h) = false) (hr : u.refusal = none) :
    engineAccess h i s after = .next (after u) := by
  simp [engineAccess, hu, hh, hr]

/-- An enabled engine's poll is the read of its register, then `pollNext`. -/
theorem engineStep_poll {h : Handle} {mask eq : Word} {m : Micro} {i : Instr} {s : State}
    (hp : PollsBy h mask eq m i) (hr : s.refusal = none) (ha : s.actor = .engine h)
    (he : s.engineEnabled h = true) (hm : (s.eng.get h).micro? s.cfg = some m) :
    ∃ u, exec i s = .next u ∧ u.ctrl = s.ctrl ∧ u.eng = s.eng ∧
      engineStep h s = .next (u.pollNext h mask eq) := by
  obtain ⟨v, hv⟩ := hp.exec_eq (s.mayAccess_engine h ha)
  refine ⟨_, hv, by simp, by simp, ?_⟩
  rw [engineStep_of_enabled he hm, hp.runMicro_eq]
  exact engineAccess_of_next _ hv (by simpa using State.not_halted_of_engineEnabled he) (by simpa using hr)

/-- Settles O32: `engineStep_poll` in the state with the turn taken off. -/
theorem pollRepeatsUntilItsConditionHolds : Obligations.PollRepeatsUntilItsConditionHolds := by
  intro s h mask eq ts i hr ha he hpoll
  obtain ⟨m, hp, hm⟩ : ∃ m, PollsBy h mask eq m i ∧ (s.eng.get h).micro? s.cfg = some m := by
    obtain ⟨hm, rfl⟩ | ⟨hm, rfl⟩ := hpoll
    · exact ⟨_, .transStatus, hm⟩
    · exact ⟨_, .fifoStatus, hm⟩
  obtain ⟨u, hu, hctrl, heng, hstep⟩ :=
    engineStep_poll (s := { s with agenda := ts, actor := .engine h }) hp hr rfl he hm
  refine ⟨u, hu, hctrl, heng, ?_⟩
  calc
    step s = engineStep h { s with agenda := ts, actor := .engine h } := step_of_agenda hr ha
    _ = .next (u.pollNext h mask eq) := hstep
    _ = _ := by rw [State.pollNext_eq, heng]

end Sys2Proof.Machine
end

section
/-! Decoding inverts encoding (30_encoding R81 to R88): the fields of a word built from fields, then the two decoders. -/

namespace Sys2Proof.Machine

open Sys2Proof.Config (Params BusLayout)

/-! ## The fields of words built from fields (R81, R83) -/

@[simp] theorem accW_accWord (w : Bool) (blk : BitVec 3) (off : BitVec 12) : accW (accWord w blk off) = w := by
  cases w <;> simp only [accW, accWord, BitVec.getLsbD_append] <;> rfl

@[simp] theorem accBlk_accWord (w : Bool) (blk : BitVec 3) (off : BitVec 12) : accBlk (accWord w blk off) = blk := by
  rw [accBlk, accWord, BitVec.extractLsb'_append_eq_of_le (by decide)]
  exact BitVec.extractLsb'_append_eq_right

@[simp] theorem accOff_accWord (w : Bool) (blk : BitVec 3) (off : BitVec 12) : accOff (accWord w blk off) = off :=
  BitVec.extractLsb'_append_eq_right

@[simp] theorem blkTarget_blk (t : Target) : blkTarget t.blk = some t := by
  cases t with
  | controller h => cases h <;> rfl
  | timeBase => rfl

@[simp] theorem cmdOp_cmdWord (op : BitVec 2) (h : Handle) (len : BitVec 16) : cmdOp (cmdWord op h len) = op :=
  BitVec.extractLsb'_append_eq_right

@[simp] theorem cmdH_cmdWord (op : BitVec 2) (h : Handle) (len : BitVec 16) : cmdH (cmdWord op h len) = h.toBits := by
  rw [cmdH, cmdWord, BitVec.extractLsb'_append_eq_of_le (by decide)]
  exact BitVec.extractLsb'_append_eq_right

@[simp] theorem cmdRsv_cmdWord (op : BitVec 2) (h : Handle) (len : BitVec 16) : cmdRsv (cmdWord op h len) = 0 := by
  rw [cmdRsv, cmdWord, BitVec.extractLsb'_append_eq_of_le (by decide), BitVec.extractLsb'_append_eq_of_le (by decide)]
  exact BitVec.extractLsb'_append_eq_right

@[simp] theorem cmdLen_cmdWord (op : BitVec 2) (h : Handle) (len : BitVec 16) : cmdLen (cmdWord op h len) = len := by
  rw [cmdLen, cmdWord, BitVec.extractLsb'_append_eq_of_le (by decide), BitVec.extractLsb'_append_eq_of_le (by decide),
    BitVec.extractLsb'_append_eq_of_le (by decide)]
  exact BitVec.extractLsb'_eq_self

/-! ## A descriptor of a block, at an aligned offset -/

/-- The access at an offset of a target (R86). -/
def decodeTarget (p : Params) (off : BitVec 12) (write : Option Word) (pt : AccessPoint) : Target → Except Verdict Instr
  | .controller h => decodeController p h off write pt
  | .timeBase => decodeTimeBase p off write pt

theorem extractLsb'_two_eq_zero_iff {w : Nat} (x : BitVec w) : x.extractLsb' 0 2 = 0 ↔ x.toNat % 4 = 0 := by
  simp [← BitVec.toNat_inj]

theorem decodeAcc_of_target {p : Params} {d : BitVec 16} {t : Target} (data : Word) (hb : blkTarget (accBlk d) = some t)
    (ha : (accOff d).toNat % 4 = 0) :
    decodeAcc p d data = decodeTarget p (accOff d) (if accW d then some data else none)
      (.addr (t.base p + (accOff d).setWidth 32)) t := by
  simp only [decodeAcc, hb, (extractLsb'_two_eq_zero_iff (accOff d)).2 ha, if_true]
  cases t <;> rfl

theorem decode_encodeRd {p : Params} (t : Target) {off : BitVec 12} (ha : off.toNat % 4 = 0) :
    decode p (encodeRd t off) = decodeTarget p off none (.addr (t.base p + off.setWidth 32)) t := by
  rw [encodeRd, decode, decodeAcc_of_target (t := t) _ (by simp) (by rwa [accOff_accWord]),
    accOff_accWord, accW_accWord]
  rfl

theorem decode_encodeWr {p : Params} (t : Target) {off : BitVec 12} (d : Word) (ha : off.toNat % 4 = 0) :
    decode p (encodeWr t off d) = decodeTarget p off (some d) (.addr (t.base p + off.setWidth 32)) t := by
  rw [encodeWr, decode, decodeAcc_of_target (t := t) _ (by simp) (by rwa [accOff_accWord]),
    accOff_accWord, accW_accWord]
  rfl

/-! ## The offsets of a layout that fits -/

/-- What the decoder needs of the offsets: aligned, and distinct inside a block (R61, R63). -/
structure OffsetsApart (l : BusLayout) : Prop where
  spiAligned : ∀ o ∈ l.spiOffsets, o.toNat % 4 = 0
  spiNodup : l.spiOffsets.Nodup
  tmrAligned : ∀ o ∈ l.tmrOffsets, o.toNat % 4 = 0
  tmrNodup : l.tmrOffsets.Nodup

theorem OffsetsApart.of_wf {l : BusLayout} (hw : l.wf = true) : OffsetsApart l := by
  simp only [BusLayout.wf, Config.offsetsFit, Bool.and_eq_true, List.all_eq_true, decide_eq_true_eq, beq_iff_eq] at hw
  obtain ⟨⟨⟨hspi, hspiNodup⟩, htmr, htmrNodup⟩, -⟩ := hw
  exact ⟨fun o ho => (hspi o ho).1, hspiNodup, fun o ho => (htmr o ho).1, htmrNodup⟩

/-! ## The two decoders on what the encoder writes -/

/-- An access is decoded back: no earlier offset of its block is the same. -/
theorem decode_encode_access {p : Params} (i : Instr) (ho : OffsetsApart p.bus) (hi : commandEngine i = none) :
    decode p (encode p i) = .ok i := by
  have hspi := List.nodup_reverse.2 ho.spiNodup
  have htmr := List.nodup_reverse.2 ho.tmrNodup
  simp only [BusLayout.spiOffsets, BusLayout.tmrOffsets, List.reverse_cons, List.reverse_nil, List.nil_append,
    List.cons_append, List.nodup_cons, List.mem_cons, not_or] at hspi htmr
  cases i <;> simp only [commandEngine, reduceCtorEq] at hi <;> simp only [encode]
  case rdCommand1 | rdTransStatus | rdFifoStatus | rdBlkSize | rdRxFifo =>
    rw [decode_encodeRd _ (ho.spiAligned _ (by simp [BusLayout.spiOffsets]))]
    simp [decodeTarget, decodeController, hspi]
  case wrCommand1 | wrTransStatus | wrFifoStatus | wrBlkSize | wrTxFifo =>
    rw [decode_encodeWr _ _ (ho.spiAligned _ (by simp [BusLayout.spiOffsets]))]
    simp [decodeTarget, decodeController, hspi]
  case rdTmrCntr1us | rdTmrUsecCfg | rdTmrCntrFreeze =>
    rw [decode_encodeRd _ (ho.tmrAligned _ (by simp [BusLayout.tmrOffsets]))]
    simp [decodeTarget, decodeTimeBase, htmr]
  case wrTmrCntr1us | wrTmrUsecCfg | wrTmrCntrFreeze =>
    rw [decode_encodeWr _ _ (ho.tmrAligned _ (by simp [BusLayout.tmrOffsets]))]
    simp [decodeTarget, decodeTimeBase, htmr]

/-- A command is decoded back from its fields, whatever the layout. -/
theorem decode_encode_command (p : Params) {i : Instr} {h : Handle} (hi : commandEngine i = some h) :
    decode p (encode p i) = .ok i := by
  cases i <;> simp only [commandEngine, reduceCtorEq] at hi <;> simp [encode, decode, decodeCmd]

/-- Settles O45: accesses by their block and offset, commands by their fields. -/
theorem decodeInvertsEncode : Obligations.DecodeInvertsEncode := by
  intro p i hw
  cases hi : commandEngine i with
  | none => exact decode_encode_access i (.of_wf hw) hi
  | some h => exact decode_encode_command p hi

end Sys2Proof.Machine
end

section
/-! The decoders against the opcode table (30_encoding R86 to R88), field by field of a word. -/

namespace Sys2Proof.Machine

open Sys2Proof.Config (Params)

/-! ## Descriptors -/

theorem accWord_fields (d : BitVec 16) : accWord (accW d) (accBlk d) (accOff d) = d := by
  have hTop : BitVec.ofBool (accW d) = d.extractLsb' 15 1 := by
    apply BitVec.eq_of_getLsbD_eq
    intro i hi
    obtain rfl : i = 0 := by omega
    simp [accW]
  have hUpper : d.extractLsb' 15 1 ++ d.extractLsb' 12 3 = d.extractLsb' 12 4 :=
    BitVec.extractLsb'_append_extractLsb'_eq_extractLsb' rfl
  have hAll : d.extractLsb' 12 4 ++ d.extractLsb' 0 12 = d.extractLsb' 0 16 :=
    BitVec.extractLsb'_append_extractLsb'_eq_extractLsb' rfl
  rw [accWord, hTop, accBlk, hUpper, accOff, hAll, BitVec.extractLsb'_eq_self]

theorem acc_ext {d e : BitVec 16} : d = e ↔ accW d = accW e ∧ accBlk d = accBlk e ∧ accOff d = accOff e := by
  refine ⟨fun h => h ▸ ⟨rfl, rfl, rfl⟩, fun ⟨hw, hb, ho⟩ => ?_⟩
  rw [← accWord_fields d, ← accWord_fields e, hw, hb, ho]

/-- A descriptor fits a row when its fields do. -/
theorem fits_acc_iff (r : TableRow 16) (d : BitVec 16) :
    r.fits d = true ↔ (accW d && accW r.mask) = accW r.pattern ∧ accBlk d &&& accBlk r.mask = accBlk r.pattern ∧
      accOff d &&& accOff r.mask = accOff r.pattern := by
  simp only [TableRow.fits, beq_iff_eq, acc_ext, accW, accBlk, accOff, BitVec.getLsbD_and, BitVec.extractLsb'_and]

/-- The offsets a controller serves, each in its direction (R86, R111, R112). -/
def ControllerRow (w : Bool) (off : BitVec 12) : Prop :=
  off ∈ [0x000, 0x010, 0x014, 0x024] ∨ off = 0x108 ∧ w = true ∨ off = 0x188 ∧ w = false

/-- The offsets the Time Base serves, in both directions (R86). -/
def TimeBaseRow (off : BitVec 12) : Prop := off ∈ [0x000, 0x004, 0x03C]

theorem blk_and_four (b : BitVec 3) : b &&& 4#3 = 0#3 ↔ b.toNat < 4 := by revert b; decide

theorem accWellFormed_iff (d : BitVec 16) :
    accWellFormed d = true ↔ (accBlk d).toNat < 4 ∧ ControllerRow (accW d) (accOff d) ∨
      (accBlk d).toNat = 4 ∧ TimeBaseRow (accOff d) := by
  simp only [accWellFormed, accTable, List.any_cons, List.any_nil, Bool.or_eq_true, fits_acc_iff, ControllerRow,
    TimeBaseRow]
  generalize accW d = w, accBlk d = b, accOff d = off
  have hoff : off &&& 0xFFF#12 = off := BitVec.and_allOnes
  have hblk : b &&& 7#3 = b := BitVec.and_allOnes
  have hfour : b = 4#3 ↔ b.toNat = 4 := (BitVec.toNat_inj (y := 4#3)).symm
  obtain hlt | heq | hgt := Nat.lt_trichotomy b.toNat 4
  · cases w <;> simp [accW, accBlk, accOff, hoff, hblk, blk_and_four, hfour, hlt, hlt.ne, or_assoc]
  · cases w <;> simp [accW, accBlk, accOff, hoff, hblk, blk_and_four, hfour, heq]
  · cases w <;> simp [accW, accBlk, accOff, hoff, hblk, blk_and_four, hfour, hgt.ne', Nat.not_lt.2 hgt.le]

theorem decodeController_unmapped {h : Handle} {off : BitVec 12} (write : Option Word) (pt : AccessPoint)
    (hoff : off ∉ [0x000, 0x010, 0x014, 0x024, 0x108, 0x188]) :
    decodeController Config.defaults h off write pt = .error (.unmappedAccess pt) := by
  simp at hoff
  simp [decodeController, Config.defaults, hoff]

theorem decodeTimeBase_unmapped {off : BitVec 12} (write : Option Word) (pt : AccessPoint) (hoff : ¬ TimeBaseRow off) :
    decodeTimeBase Config.defaults off write pt = .error (.unmappedAccess pt) := by
  simp [TimeBaseRow] at hoff
  simp [decodeTimeBase, Config.defaults, hoff]

theorem decodeController_ok_iff (h : Handle) (off : BitVec 12) (w : Bool) (data : Word) (pt : AccessPoint) :
    (∃ i, decodeController Config.defaults h off (if w then some data else none) pt = .ok i) ↔ ControllerRow w off := by
  by_cases hoff : off ∈ [0x000, 0x010, 0x014, 0x024, 0x108, 0x188]
  · simp only [List.mem_cons, List.not_mem_nil, or_false] at hoff
    obtain rfl | rfl | rfl | rfl | rfl | rfl := hoff <;> cases w <;>
      simp [decodeController, ControllerRow, Config.defaults]
  · rw [decodeController_unmapped _ _ hoff]
    simp [ControllerRow] at hoff ⊢
    tauto

theorem decodeTimeBase_ok_iff (off : BitVec 12) (write : Option Word) (pt : AccessPoint) :
    (∃ i, decodeTimeBase Config.defaults off write pt = .ok i) ↔ TimeBaseRow off := by
  by_cases hoff : TimeBaseRow off
  · simp only [hoff, iff_true]
    simp only [TimeBaseRow, List.mem_cons, List.not_mem_nil, or_false] at hoff
    obtain rfl | rfl | rfl := hoff <;> cases write <;> exact ⟨_, rfl⟩
  · simp [decodeTimeBase_unmapped write pt hoff, hoff]

/-! ## The block of a descriptor -/

/-- The two low bits of BLK name a controller when the third is 0 (R81). -/
theorem blkTarget_of_lt {b : BitVec 3} (hb : b.toNat < 4) :
    blkTarget b = some (.controller (.ofBits (b.extractLsb' 0 2))) := by
  revert b; decide

theorem blkTarget_of_eq {b : BitVec 3} (hb : b.toNat = 4) : blkTarget b = some .timeBase := by revert b; decide

theorem blkTarget_of_gt {b : BitVec 3} (hb : 4 < b.toNat) : blkTarget b = none := by revert b; decide

theorem accBlk_low (d : BitVec 16) : (accBlk d).extractLsb' 0 2 = d.extractLsb' 12 2 := by
  apply BitVec.eq_of_getLsbD_eq
  intro i hi
  have : i < 3 := by omega
  simp [accBlk, hi, this]

/-- A descriptor of a block is misaligned, or decoded by its block. -/
theorem decodeAcc_misaligned {p : Params} {d : BitVec 16} {t : Target} (data : Word)
    (hb : blkTarget (accBlk d) = some t) (ha : (accOff d).toNat % 4 ≠ 0) :
    decodeAcc p d data = .error (.misaligned (.addr (t.base p + (accOff d).setWidth 32))) := by
  rw [ne_eq, ← extractLsb'_two_eq_zero_iff] at ha
  simp only [decodeAcc, hb, ha, if_false]

theorem decodeAcc_no_block {p : Params} {d : BitVec 16} (data : Word) (hb : blkTarget (accBlk d) = none) :
    decodeAcc p d data =
      .error (if (accOff d).toNat % 4 = 0 then .unmappedAccess (.desc d) else .misaligned (.desc d)) := by
  simp only [decodeAcc, hb, extractLsb'_two_eq_zero_iff]
  split <;> rfl

/-- Every offset of a row is aligned. -/
theorem ControllerRow.aligned {w : Bool} {off : BitVec 12} (hr : ControllerRow w off) : off.toNat % 4 = 0 := by
  simp only [ControllerRow, List.mem_cons, List.not_mem_nil, or_false] at hr
  obtain (rfl | rfl | rfl | rfl) | ⟨rfl, -⟩ | ⟨rfl, -⟩ := hr <;> rfl

theorem TimeBaseRow.aligned {off : BitVec 12} (hr : TimeBaseRow off) : off.toNat % 4 = 0 := by
  simp only [TimeBaseRow, List.mem_cons, List.not_mem_nil, or_false] at hr
  obtain rfl | rfl | rfl := hr <;> rfl

/-! ## The table -/

theorem decodeAcc_ok_iff (d : BitVec 16) (data : Word) :
    (∃ i, decodeAcc Config.defaults d data = .ok i) ↔ accWellFormed d = true := by
  rw [accWellFormed_iff]
  obtain hlt | heq | hgt := Nat.lt_trichotomy (accBlk d).toNat 4
  · have ht := blkTarget_of_lt hlt
    by_cases ha : (accOff d).toNat % 4 = 0
    · rw [decodeAcc_of_target _ ht ha, decodeTarget, decodeController_ok_iff]
      simp [hlt, hlt.ne]
    · have hr : ¬ ControllerRow (accW d) (accOff d) := fun h => ha h.aligned
      simp [decodeAcc_misaligned _ ht ha, hr, hlt.ne]
  · have ht := blkTarget_of_eq heq
    by_cases ha : (accOff d).toNat % 4 = 0
    · rw [decodeAcc_of_target _ ht ha, decodeTarget, decodeTimeBase_ok_iff]
      simp [heq]
    · have hr : ¬ TimeBaseRow (accOff d) := fun h => ha h.aligned
      simp [decodeAcc_misaligned _ ht ha, heq, hr]
  · simp [decodeAcc_no_block _ (blkTarget_of_gt hgt), hgt.ne', hgt.le]

/-- The verdicts of the descriptors that match no row, in the order of R215. -/
theorem decodeAcc_verdicts (d : BitVec 16) (data : Word) :
    let decoded := decodeAcc Config.defaults d data
    let blk := (accBlk d).toNat
    let h := Handle.ofBits (d.extractLsb' 12 2)
    let base := if blk < 4 then Config.defaults.bus.spiBase.get h else 0x60005010
    let place := AccessPoint.addr (base + (accOff d).setWidth 32)
    ((accOff d).toNat % 4 ≠ 0 → decoded = .error (.misaligned (if blk ≤ 4 then place else .desc d))) ∧
    ((accOff d).toNat % 4 = 0 →
      (4 < blk → decoded = .error (.unmappedAccess (.desc d))) ∧
      (blk = 4 → ¬ TimeBaseRow (accOff d) → decoded = .error (.unmappedAccess place)) ∧
      (blk < 4 → accOff d = 0x108 → accW d = false → decoded = .error (.wrongDirection h .tx)) ∧
      (blk < 4 → accOff d = 0x188 → accW d = true → decoded = .error (.wrongDirection h .rx)) ∧
      (blk < 4 → accOff d ∉ [0x000, 0x010, 0x014, 0x024, 0x108, 0x188] → decoded = .error (.unmappedAccess place))) := by
  dsimp only
  rw [← accBlk_low]
  obtain hlt | heq | hgt := Nat.lt_trichotomy (accBlk d).toNat 4
  · have ht := blkTarget_of_lt hlt
    refine ⟨fun ha => ?_, fun ha => ⟨by omega, by omega, fun _ ho hw => ?_, fun _ ho hw => ?_, fun _ ho => ?_⟩⟩
    · rw [decodeAcc_misaligned _ ht ha, if_pos hlt.le, if_pos hlt]; rfl
    · rw [decodeAcc_of_target _ ht ha, decodeTarget, ho, hw]; rfl
    · rw [decodeAcc_of_target _ ht ha, decodeTarget, ho, hw]; rfl
    · rw [decodeAcc_of_target _ ht ha, decodeTarget, decodeController_unmapped _ _ ho, if_pos hlt]; rfl
  · have ht := blkTarget_of_eq heq
    have hlt : ¬ (accBlk d).toNat < 4 := by omega
    refine ⟨fun ha => ?_, fun ha => ⟨by omega, fun _ ho => ?_, by omega, by omega, by omega⟩⟩
    · rw [decodeAcc_misaligned _ ht ha, if_pos heq.le, if_neg hlt]; rfl
    · rw [decodeAcc_of_target _ ht ha, decodeTarget, decodeTimeBase_unmapped _ _ ho, if_neg hlt]; rfl
  · have ht := blkTarget_of_gt hgt
    refine ⟨fun ha => ?_, fun ha => ⟨fun _ => ?_, by omega, by omega, by omega, by omega⟩⟩
    · rw [decodeAcc_no_block _ ht, if_neg ha, if_neg (Nat.not_le.2 hgt)]
    · rw [decodeAcc_no_block _ ht, if_pos ha]

/-! ## Command words -/

theorem cmd_ext {c e : Word} :
    c = e ↔ cmdLen c = cmdLen e ∧ cmdRsv c = cmdRsv e ∧ cmdH c = cmdH e ∧ cmdOp c = cmdOp e := by
  refine ⟨fun h => h ▸ ⟨rfl, rfl, rfl, rfl⟩, fun ⟨hl, hr, hh, ho⟩ => ?_⟩
  have fields : ∀ x : Word, cmdLen x ++ cmdRsv x ++ cmdH x ++ cmdOp x = x := fun x => by
    have hHigh : x.extractLsb' 16 16 ++ x.extractLsb' 4 12 = x.extractLsb' 4 28 :=
      BitVec.extractLsb'_append_extractLsb'_eq_extractLsb' rfl
    have hUpper : x.extractLsb' 4 28 ++ x.extractLsb' 2 2 = x.extractLsb' 2 30 :=
      BitVec.extractLsb'_append_extractLsb'_eq_extractLsb' rfl
    have hAll : x.extractLsb' 2 30 ++ x.extractLsb' 0 2 = x.extractLsb' 0 32 :=
      BitVec.extractLsb'_append_extractLsb'_eq_extractLsb' rfl
    rw [cmdLen, cmdRsv, cmdH, cmdOp, hHigh, hUpper, hAll, BitVec.extractLsb'_eq_self]
  rw [← fields c, ← fields e, hl, hr, hh, ho]

theorem fits_cmd_iff (r : TableRow 32) (c : Word) :
    r.fits c = true ↔ cmdLen c &&& cmdLen r.mask = cmdLen r.pattern ∧ cmdRsv c &&& cmdRsv r.mask = cmdRsv r.pattern ∧
      cmdH c &&& cmdH r.mask = cmdH r.pattern ∧ cmdOp c &&& cmdOp r.mask = cmdOp r.pattern := by
  simp only [TableRow.fits, beq_iff_eq, cmd_ext, cmdLen, cmdRsv, cmdH, cmdOp, BitVec.extractLsb'_and]

theorem cmdOp_cases (op : BitVec 2) : op = 0#2 ∨ op = 1#2 ∨ op = 2#2 ∨ op = 3#2 := by revert op; decide

theorem cmdWellFormed_iff (c : Word) :
    cmdWellFormed c = true ↔ cmdRsv c = 0 ∧ (cmdOp c = 0 ∨ cmdOp c = 1 → cmdLen c = 0) := by
  simp only [cmdWellFormed, cmdTable, List.any_cons, List.any_nil, Bool.or_eq_true, fits_cmd_iff]
  generalize cmdLen c = len, cmdRsv c = rsv, cmdH c = h, cmdOp c = op
  have hlen : len &&& 0xFFFF#16 = len := BitVec.and_allOnes
  have hrsv : rsv &&& 0xFFF#12 = rsv := BitVec.and_allOnes
  obtain rfl | rfl | rfl | rfl := cmdOp_cases op <;> simp [cmdLen, cmdRsv, cmdH, cmdOp, hlen, hrsv, and_comm]

theorem decodeCmd_of_wellFormed {c : Word} (bytes : List Byte) (hc : cmdWellFormed c = true) :
    ∃ i, decodeCmd c bytes = .ok i := by
  obtain ⟨hr, hl⟩ := (cmdWellFormed_iff c).1 hc
  simp only [decodeCmd, hr, ne_eq, not_true_eq_false, if_false]
  split_ifs <;> simp_all

theorem decodeCmd_of_malformed {c : Word} (bytes : List Byte) (hc : cmdWellFormed c = false) :
    decodeCmd c bytes = .error (.illegalCommand c) := by
  rw [← Bool.not_eq_true, cmdWellFormed_iff] at hc
  simp only [decodeCmd]
  split_ifs <;> simp_all

theorem decodeCmd_ok_iff (c : Word) (bytes : List Byte) :
    (∃ i, decodeCmd c bytes = .ok i) ↔ cmdWellFormed c = true := by
  refine ⟨fun ⟨i, hi⟩ => ?_, decodeCmd_of_wellFormed bytes⟩
  cases hc : cmdWellFormed c with
  | true => rfl
  | false => rw [decodeCmd_of_malformed bytes hc] at hi; cases hi

/-- Settles O46: the rows field by field, then the verdicts of the words that match none. -/
theorem decoderAcceptsExactlyTheTable : Obligations.DecoderAcceptsExactlyTheTable :=
  ⟨fun d data => ⟨decodeAcc_ok_iff d data, decodeAcc_verdicts d data⟩,
    fun c bytes => ⟨decodeCmd_ok_iff c bytes, decodeCmd_of_malformed bytes⟩⟩

/-- Settles O47: the decoder run on the six words. -/
theorem sampleWordsDecode : Obligations.SampleWordsDecode :=
  ⟨by decide, by decide, by decide, by decide, by decide, by decide⟩

end Sys2Proof.Machine
end

section
/-! Physical accesses (20_memory R61 to R63; 30_encoding R82): the block of an address, and its descriptor. -/

namespace Sys2Proof.Machine

open Sys2Proof.Config (Params BusLayout)

/-- An address lies in a block (R61). -/
def InBlock (base : Word) (span : Nat) (a : Word) : Prop := base.toNat ≤ a.toNat ∧ a.toNat < base.toNat + span

/-- The block of a target (R61, R68). -/
def InTarget (p : Params) (a : Word) : Target → Prop
  | .controller h => InBlock (p.bus.spiBase.get h) p.bus.spiBlockBytes a
  | .timeBase => InBlock p.bus.tmrBase Config.tmrSpan a

theorem offsetIn_of_inBlock {base : Word} {span : Nat} {a : Word} (ha : InBlock base span a) :
    offsetIn base span a = some (BitVec.ofNat 12 (a.toNat - base.toNat)) := if_pos ha

theorem offsetIn_of_not_inBlock {base : Word} {span : Nat} {a : Word} (ha : ¬ InBlock base span a) :
    offsetIn base span a = none := if_neg ha

/-- The blocks of a layout that fits share no address (R61). -/
theorem inTarget_unique {p : Params} {a : Word} {t u : Target} (hw : p.bus.wf = true) (ht : InTarget p a t)
    (hu : InTarget p a u) : t = u := by
  simp [BusLayout.wf, BusLayout.blocksFit, BusLayout.blocks, Config.apart] at hw
  obtain ⟨-, -, hpair⟩ := hw
  cases t with
  | controller h => 
    cases u with
    | controller k => cases h <;> cases k <;> simp only [InTarget, InBlock, PerHandle.get] at ht hu <;> first | rfl | omega
    | timeBase => cases h <;> simp only [InTarget, InBlock, PerHandle.get] at ht hu <;> omega
  | timeBase =>
    cases u with
    | controller k => cases k <;> simp only [InTarget, InBlock, PerHandle.get] at ht hu <;> omega
    | timeBase => rfl

/-- A target's block is aligned and no longer than OFF reaches (R60, R81). -/
theorem target_block_fits {p : Params} {a : Word} {t : Target} (hw : p.bus.wf = true) (ht : InTarget p a t) :
    (t.base p).toNat % 4 = 0 ∧ InBlock (t.base p) 4096 a := by
  simp [BusLayout.wf, BusLayout.blocksFit, BusLayout.blocks] at hw
  obtain ⟨-, ⟨hspan, halign⟩, -⟩ := hw
  cases t with
  | controller h =>
    simp only [InTarget, InBlock, Target.base] at ht ⊢
    cases h <;> simp only [PerHandle.get] at ht ⊢ <;> omega
  | timeBase =>
    simp only [InTarget, InBlock, Target.base, Config.tmrSpan] at ht ⊢
    omega

theorem decodeAddress_of_inTarget {p : Params} {a : Word} {t : Target} (hw : p.bus.wf = true) (ht : InTarget p a t) :
    decodeAddress p a = some (t, BitVec.ofNat 12 (a.toNat - (t.base p).toNat)) := by
  have hnone : ∀ k, t ≠ .controller k → offsetIn (p.bus.spiBase.get k) p.bus.spiBlockBytes a = none := fun k hk =>
    offsetIn_of_not_inBlock fun hin => hk (inTarget_unique (u := .controller k) hw ht hin)
  cases t with
  | controller h =>
    have hsome := offsetIn_of_inBlock ht
    cases h <;> simp [decodeAddress, Handle.all, hsome, hnone, Target.base]
  | timeBase =>
    simp [decodeAddress, Handle.all, hnone, offsetIn_of_inBlock ht, Target.base]

theorem decodeAddress_of_outside {p : Params} {a : Word} (ht : ∀ t, ¬ InTarget p a t) : decodeAddress p a = none := by
  have hnone : ∀ k, offsetIn (p.bus.spiBase.get k) p.bus.spiBlockBytes a = none := fun k =>
    offsetIn_of_not_inBlock (ht (.controller k))
  simp [decodeAddress, Handle.all, hnone, offsetIn_of_not_inBlock (ht .timeBase)]

theorem decodePhys_of_descriptor {p : Params} {a : Word} {write : Option Word} {d : BitVec 16} (ha : a.toNat % 4 = 0)
    (hd : descriptorOf p a write = some d) : decodePhys p a 32 write = decodeAcc p d (write.getD 0) := by
  simp only [decodePhys, (extractLsb'_two_eq_zero_iff a).2 ha, ne_eq, not_true_eq_false, if_false, hd]

theorem decodePhys_of_no_descriptor {p : Params} {a : Word} {write : Option Word} (ha : a.toNat % 4 = 0)
    (hd : descriptorOf p a write = none) : decodePhys p a 32 write = .error (.unmappedAccess (.addr a)) := by
  simp only [decodePhys, (extractLsb'_two_eq_zero_iff a).2 ha, ne_eq, not_true_eq_false, if_false, hd]

/-- An aligned access in a block is the access of the target at its offset there. -/
theorem decodePhys_of_inTarget {p : Params} {a : Word} {t : Target} (write : Option Word) (hw : p.bus.wf = true)
    (ha : a.toNat % 4 = 0) (ht : InTarget p a t) :
    decodePhys p a 32 write = decodeTarget p (BitVec.ofNat 12 (a.toNat - (t.base p).toNat)) write (.addr a) t := by
  obtain ⟨hbase, hlo, hhi⟩ := target_block_fits hw ht
  have hoff : (BitVec.ofNat 12 (a.toNat - (t.base p).toNat)).toNat = a.toNat - (t.base p).toNat := by
    rw [BitVec.toNat_ofNat]; omega
  have haddr : t.base p + (BitVec.ofNat 12 (a.toNat - (t.base p).toNat)).setWidth 32 = a := by
    apply BitVec.eq_of_toNat_eq
    rw [BitVec.toNat_add, BitVec.toNat_setWidth, hoff]
    omega
  have hwrite : (if write.isSome then some (write.getD 0) else none) = write := by cases write <;> rfl
  have hdesc : descriptorOf p a write =
      some (accWord write.isSome t.blk (BitVec.ofNat 12 (a.toNat - (t.base p).toNat))) := by
    simp [descriptorOf, decodeAddress_of_inTarget hw ht]
  rw [decodePhys_of_descriptor ha hdesc, decodeAcc_of_target (t := t) _ (by simp) (by rw [accOff_accWord, hoff]; omega),
    accOff_accWord, accW_accWord,
    hwrite, haddr]

/-- Settles O48: width, alignment, and then the one block that holds the address. -/
theorem physicalAccessDecodesByItsBlock : Obligations.PhysicalAccessDecodesByItsBlock := by
  intro p a width write hw
  refine ⟨fun hne => if_pos hne, fun ha => ?_, fun ha => ⟨fun h hlo hhi => ?_, fun hlo hhi => ?_, fun hspi htmr => ?_⟩⟩
  · rw [ne_eq, ← extractLsb'_two_eq_zero_iff] at ha
    simp only [decodePhys, ne_eq, not_true_eq_false, if_false, ha, not_false_eq_true, if_true]
  · exact decodePhys_of_inTarget (t := .controller h) write hw ha ⟨hlo, hhi⟩
  · exact decodePhys_of_inTarget (t := .timeBase) write hw ha ⟨hlo, hhi⟩
  · have hout : ∀ t, ¬ InTarget p a t := fun t => match t with
      | .controller h => hspi h
      | .timeBase => htmr
    exact decodePhys_of_no_descriptor ha (by rw [descriptorOf, decodeAddress_of_outside hout]; rfl)

end Sys2Proof.Machine
end

section
/-! One equation per register access (40_register_access R100 to R110), and the statements read off them. -/

namespace Sys2Proof.Machine

open Sys2Proof.Config (Params)

/-! ## What an access answers to an agent that may make it -/

section Accesses

variable {s : State} {h : Handle} (hacc : s.mayAccess h = true)

include hacc

theorem exec_rdCommand1 : exec (.rdCommand1 h) s = .next ((s.afterDraw.setCtrl h ((s.ctrl.get h).closeStale s.now)).returnRead
    (command1Word s.cfg (s.ctrl.get h).command1 (s.ctrl.get h).busy s.drawn)) :=
  by rw [exec, execRdCommand1, accessCtrl_of_mayAccess _ hacc]

theorem exec_wrCommand1_busy (d : Word) (hb : (s.ctrl.get h).busy = true) :
    exec (.wrCommand1 h d) s = .next (s.raise (.writeWhileBusy h .command1)) := by
  rw [exec, execWrCommand1, accessCtrl_of_mayAccess _ hacc, if_pos hb]

theorem exec_wrCommand1_configure {d : Word} (hb : (s.ctrl.get h).busy = false) (hd : pioBit s.cfg d = false) :
    exec (.wrCommand1 h d) s = .next (s.setCtrl h (((s.ctrl.get h).setCommand1 s.cfg d).touch s.now)) := by
  rw [exec, execWrCommand1, accessCtrl_of_mayAccess _ hacc, if_neg (by simp [hb]), if_neg (by simp [hd])]

theorem exec_wrCommand1_trigger {d : Word} (hb : (s.ctrl.get h).busy = false) (hd : pioBit s.cfg d = true) :
    exec (.wrCommand1 h d) s = .next (startTransfer h (s.setCtrl h ((s.ctrl.get h).setCommand1 s.cfg d))) := by
  rw [exec, execWrCommand1, accessCtrl_of_mayAccess _ hacc, if_neg (by simp [hb]), if_pos hd]

theorem exec_rdTransStatus : exec (.rdTransStatus h) s =
    .next (s.afterDraw.returnRead (transStatusWord s.cfg (s.ctrl.get h) s.drawn)) :=
  by rw [exec, execRdTransStatus, accessCtrl_of_mayAccess _ hacc]

theorem exec_wrTransStatus (d : Word) : exec (.wrTransStatus h d) s =
    .next (s.setCtrl h (((s.ctrl.get h).clearRdy s.cfg d).touch s.now)) :=
  by rw [exec, execWrTransStatus, accessCtrl_of_mayAccess _ hacc]

theorem exec_rdFifoStatus : exec (.rdFifoStatus h) s =
    .next (s.afterDraw.returnRead (fifoStatusWord s.cfg (s.ctrl.get h) s.drawn)) :=
  by rw [exec, execRdFifoStatus, accessCtrl_of_mayAccess _ hacc]

theorem exec_wrFifoStatus_busy {d : Word} (hb : (asksFlush s.cfg d && (s.ctrl.get h).busy) = true) :
    exec (.wrFifoStatus h d) s = .next (s.raise (.flushWhileBusy h)) := by
  rw [exec, execWrFifoStatus, accessCtrl_of_mayAccess _ hacc, if_pos hb]

theorem exec_wrFifoStatus {d : Word} (hb : (asksFlush s.cfg d && (s.ctrl.get h).busy) = false) :
    exec (.wrFifoStatus h d) s =
      .next (s.setCtrl h ((((s.ctrl.get h).clearErrors s.cfg d).startFlush s.cfg d).touch s.now)) := by
  rw [exec, execWrFifoStatus, accessCtrl_of_mayAccess _ hacc, if_neg (by simp [hb])]

theorem exec_wrBlkSize_busy (d : Word) (hb : (s.ctrl.get h).busy = true) :
    exec (.wrBlkSize h d) s = .next (s.raise (.writeWhileBusy h .blkSize)) := by
  rw [exec, execWrBlkSize, accessCtrl_of_mayAccess _ hacc, if_pos hb]

theorem exec_wrBlkSize (d : Word) (hb : (s.ctrl.get h).busy = false) :
    exec (.wrBlkSize h d) s = .next (s.setCtrl h (((s.ctrl.get h).setBlkSize s.cfg d).touch s.now)) := by
  rw [exec, execWrBlkSize, accessCtrl_of_mayAccess _ hacc, if_neg (by simp [hb])]

theorem exec_wrTxFifo_flushing (d : Word) (hf : (s.ctrl.get h).flushTx = true) :
    exec (.wrTxFifo h d) s = .next (s.raise (.fifoAccessDuringFlush h .tx)) := by
  rw [exec, execWrTxFifo, accessCtrl_of_mayAccess _ hacc, if_pos hf]

theorem exec_wrTxFifo (d : Word) (hf : (s.ctrl.get h).flushTx = false) :
    exec (.wrTxFifo h d) s = .next (s.setCtrl h (((s.ctrl.get h).touch s.now).pushTx s.cfg d)) := by
  rw [exec, execWrTxFifo, accessCtrl_of_mayAccess _ hacc, if_neg (by simp [hf])]

theorem exec_rdRxFifo_flushing (hf : (s.ctrl.get h).flushRx = true) :
    exec (.rdRxFifo h) s = .next (s.raise (.fifoAccessDuringFlush h .rx)) := by
  rw [exec, execRdRxFifo, accessCtrl_of_mayAccess _ hacc, if_pos hf]

theorem exec_rdRxFifo_head {w : Word} {q : List Word} (hf : (s.ctrl.get h).flushRx = false)
    (hq : (s.ctrl.get h).rxq = w :: q) :
    exec (.rdRxFifo h) s = .next ((s.setCtrl h { s.ctrl.get h with rxq := q }).returnRead w) := by
  rw [exec, execRdRxFifo, accessCtrl_of_mayAccess _ hacc, if_neg (by simp [hf])]
  simp [Ctrl.popRx, Ctrl.rxValue, hq]

theorem exec_rdRxFifo_empty (hf : (s.ctrl.get h).flushRx = false) (hq : (s.ctrl.get h).rxq = []) :
    exec (.rdRxFifo h) s = .next ((s.afterDraw.setCtrl h (s.ctrl.get h).flagRxUnf).returnRead s.drawn) := by
  rw [exec, execRdRxFifo, accessCtrl_of_mayAccess _ hacc, if_neg (by simp [hf])]
  simp [Ctrl.popRx, Ctrl.rxValue, hq]

end Accesses

/-- An access by an agent that may not make it is refused, whatever it is (R220). -/
theorem exec_refused {i : Instr} {h : Handle} {s : State} (hi : accessedCtrl i = some h) (hacc : s.mayAccess h = false) :
    exec i s = .next (s.refuse (.ownershipViolation h)) := by
  cases i <;> simp only [accessedCtrl, Option.some.injEq, reduceCtorEq] at hi <;> subst hi <;>
    simp only [exec, execRdCommand1, execWrCommand1, execRdTransStatus, execWrTransStatus, execRdFifoStatus,
      execWrFifoStatus, execRdBlkSize, execWrBlkSize, execWrTxFifo, execRdRxFifo, accessCtrl_refuses _ hacc]

/-! ## Faults and refusals as the statements name them -/

theorem Faulted.raise (f : Fault) (s : State) : Faulted f s (s.raise f) := by
  refine ⟨?_, fun r => s.mem_raiseAs_faults s.actor f r⟩
  unfold State.raise State.raiseAs
  split <;> rfl

theorem Refused.refuse {s : State} (r : Refusal) (hr : s.refusal = none) : Refused r s (s.refuse r) := by
  simp [Refused, State.refuse, hr]

/-! ## The fields of `COMMAND1` at the default positions (R29) -/

section Defaults

variable (w : Word)

@[simp] theorem pioBit_defaults : pioBit Config.defaults w = w.getLsbD 31 := rfl
@[simp] theorem csSwHw_defaults : csSwHw Config.defaults w = w.getLsbD 21 := rfl
@[simp] theorem lsbitFe_defaults : lsbitFe Config.defaults w = w.getLsbD 16 := rfl
@[simp] theorem rxEn_defaults : rxEn Config.defaults w = w.getLsbD 12 := rfl
@[simp] theorem txEn_defaults : txEn Config.defaults w = w.getLsbD 11 := rfl
@[simp] theorem packedBit_defaults : packedBit Config.defaults w = w.getLsbD 5 := rfl
@[simp] theorem bitLength_defaults : bitLength Config.defaults w = w.extractLsb' 0 5 := rfl
@[simp] theorem storeCommand1_defaults : storeCommand1 Config.defaults w = w &&& 0x7FFFF83F := by
  rw [storeCommand1, mCommand1Rw_defaults]

end Defaults

/-! ## COMMAND1 -/

theorem getLsbD_command1Word (p : Params) (stored : Word) (busy : Bool) (draw : Word) {k : Nat} (hk : k < 32) :
    (command1Word p stored busy draw).getLsbD k =
      if k = p.command1.pio then busy
      else if (mCommand1Reserved p).getLsbD k then draw.getLsbD k else stored.getLsbD k := by
  rw [command1Word, getLsbD_putBit _ _ _ _ hk, getLsbD_mergeBits _ _ _ _ hk]

theorem Ctrl.closeStale_eq (now : Nat) (c : Ctrl) :
    c.closeStale now = { c with stale := c.stale && decide (now - c.tTrig < 1) } := by
  have hlt : (!decide (Config.tTriggerUs ≤ now - c.tTrig)) = decide (now - c.tTrig < 1) := by
    rw [Bool.eq_iff_iff, Bool.not_eq_true', decide_eq_false_iff_not, decide_eq_true_eq, Nat.not_le]
    rfl
  rw [Ctrl.closeStale, hlt]

/-- Settles O1: bit 31 is PIO, the reserved bits 10:6 are the only drawn ones. -/
theorem readCommand1ReturnsFieldsAndBusy : Obligations.ReadCommand1ReturnsFieldsAndBusy := by
  intro s h hcfg hacc
  have hReserved : ∀ k < 31, k < 6 ∨ 10 < k → (0x7C0 : Word).getLsbD k = false := by decide
  refine ⟨command1Word s.cfg (s.ctrl.get h).command1 (s.ctrl.get h).busy s.drawn, s.afterDraw.script,
    s.afterDraw.drawIx, ?_, ?_, fun k hk hfield => ?_⟩
  · rw [exec_rdCommand1 hacc, Ctrl.closeStale_eq, State.afterDraw_eq]
    rfl
  · rw [hcfg, getLsbD_command1Word _ _ _ _ (by decide)]
    rfl
  · rw [hcfg, getLsbD_command1Word _ _ _ _ (by omega), if_neg (show k ≠ Config.defaults.command1.pio from Nat.ne_of_lt hk),
      mCommand1Reserved_defaults,
      if_neg (by simp only [hReserved k hk hfield, Bool.false_eq_true, not_false_eq_true])]

/-- Settles O2: the busy write and the configuring write of an idle controller. -/
theorem writeCommand1StoresWhenIdleAndFaultsWhenBusy : Obligations.WriteCommand1StoresWhenIdleAndFaultsWhenBusy := by
  intro s h d hacc
  refine ⟨fun hb => ⟨_, exec_wrCommand1_busy hacc d hb, Faulted.raise _ _⟩, fun hcfg hb hd => ?_⟩
  have hstore : storeCommand1 s.cfg d = d &&& 0x7FFFF83F := by rw [hcfg, storeCommand1_defaults]
  rw [exec_wrCommand1_configure hacc hb (by rw [hcfg]; exact hd), Ctrl.setCommand1, hstore]
  rfl

/-! ## Transfer start -/

theorem bitLength_and_rw (d : Word) : (d &&& 0x7FFFF83F).extractLsb' 0 5 = d.extractLsb' 0 5 := by
  have hmask : (0x7FFFF83F : Word).extractLsb' 0 5 = BitVec.allOnes 5 := by decide
  rw [BitVec.extractLsb'_and, hmask, BitVec.and_allOnes]

theorem getLsbD_and_rw (d : Word) {k : Nat} (hk : (0x7FFFF83F : Word).getLsbD k = true) :
    (d &&& 0x7FFFF83F).getLsbD k = d.getLsbD k := by
  rw [BitVec.getLsbD_and, hk, Bool.and_true]

/-- The checks of R141 at the default positions. -/
theorem checkConfig_defaults (w : Word) : checkConfig Config.defaults w =
    if w.extractLsb' 0 5 ≠ 7 then some .bitLength
    else if w.getLsbD 5 then some .packed
    else if !w.getLsbD 21 then some .hwChipSelect
    else if !w.getLsbD 11 && !w.getLsbD 12 then some .noDirection
    else none := rfl

/-- The checks read only what the write stores of a word. -/
theorem checkConfig_and_rw (d : Word) :
    checkConfig Config.defaults (d &&& 0x7FFFF83F) = checkConfig Config.defaults d := by
  simp only [checkConfig_defaults, bitLength_and_rw, getLsbD_and_rw (k := 5) d rfl, getLsbD_and_rw (k := 21) d rfl,
    getLsbD_and_rw (k := 11) d rfl, getLsbD_and_rw (k := 12) d rfl]

theorem startTransfer_unsettled {h : Handle} {s : State} (hset : (s.ctrl.get h).settled s.now = false) :
    startTransfer h s = s.raise (.hazardSettle h) := by
  simp [startTransfer, hset]

theorem startTransfer_flushing {h : Handle} {s : State} (hset : (s.ctrl.get h).settled s.now = true)
    (hf : (s.ctrl.get h).flushTx = true ∨ (s.ctrl.get h).flushRx = true) :
    startTransfer h s = s.raise (.triggerDuringFlush h) := by
  simp [startTransfer, hset, hf]

theorem startTransfer_unsupported {h : Handle} {s : State} {why : Unsupported}
    (hset : (s.ctrl.get h).settled s.now = true) (hft : (s.ctrl.get h).flushTx = false)
    (hfr : (s.ctrl.get h).flushRx = false) (hc : checkConfig s.cfg (s.ctrl.get h).command1 = some why) :
    startTransfer h s = s.refuse (.unsupportedConfig h why) := by
  simp [startTransfer, hset, hft, hfr, hc]

theorem startTransfer_starts {h : Handle} {s : State} (hset : (s.ctrl.get h).settled s.now = true)
    (hft : (s.ctrl.get h).flushTx = false) (hfr : (s.ctrl.get h).flushRx = false)
    (hc : checkConfig s.cfg (s.ctrl.get h).command1 = none) :
    startTransfer h s = s.setCtrl h (((s.ctrl.get h).start s.cfg s.now).touch s.now) := by
  simp [startTransfer, hset, hft, hfr, hc]

theorem Ctrl.settled_iff {now : Nat} {c : Ctrl} : c.settled now = true ↔ ∀ t, c.tLastw = some t → 2 ≤ now - t := by
  unfold Ctrl.settled
  cases c.tLastw with
  | none => simp
  | some t =>
    simp only [decide_eq_true_eq, Option.some.injEq, forall_eq']
    rfl

@[simp] theorem Ctrl.settled_setCommand1 (p : Params) (d : Word) (now : Nat) (c : Ctrl) :
    (c.setCommand1 p d).settled now = c.settled now := rfl

/-- A trigger write that passes every check (R140, R142). -/
theorem exec_wrCommand1_start {s : State} {h : Handle} {d : Word} (hacc : s.mayAccess h = true)
    (hb : (s.ctrl.get h).busy = false) (hd : pioBit s.cfg d = true) (hset : (s.ctrl.get h).settled s.now = true)
    (hft : (s.ctrl.get h).flushTx = false) (hfr : (s.ctrl.get h).flushRx = false)
    (hc : checkConfig s.cfg (storeCommand1 s.cfg d) = none) :
    exec (.wrCommand1 h d) s =
      .next (s.setCtrl h ((((s.ctrl.get h).setCommand1 s.cfg d).start s.cfg s.now).touch s.now)) := by
  rw [exec_wrCommand1_trigger hacc hb hd, startTransfer_starts (by simpa) (by simpa) (by simpa) (by simpa)]
  simp [State.setCtrl]

/-- Settles O3: every check passes. -/
theorem triggerWriteStartsTransfer : Obligations.TriggerWriteStartsTransfer := by
  intro s h d hcfg hacc hb hft hfr hset hpio hbits hpacked hsw hdir
  have hstore : storeCommand1 s.cfg d = d &&& 0x7FFFF83F := by rw [hcfg, storeCommand1_defaults]
  have hc : checkConfig s.cfg (storeCommand1 s.cfg d) = none := by
    rw [hstore, hcfg, checkConfig_and_rw, checkConfig_defaults, hbits, hpacked, hsw]
    obtain hdir | hdir := hdir <;> simp only [hdir] <;> simp
  have hlat : txEn s.cfg (d &&& 0x7FFFF83F) = d.getLsbD 11 ∧ rxEn s.cfg (d &&& 0x7FFFF83F) = d.getLsbD 12 ∧
      lsbitFe s.cfg (d &&& 0x7FFFF83F) = d.getLsbD 16 := by
    rw [hcfg]
    exact ⟨getLsbD_and_rw d rfl, getLsbD_and_rw d rfl, getLsbD_and_rw d rfl⟩
  rw [exec_wrCommand1_start hacc hb (by rw [hcfg]; exact hpio) (Ctrl.settled_iff.2 hset) hft hfr hc, Ctrl.setCommand1,
    hstore, Ctrl.start, hlat.1, hlat.2.1, hlat.2.2]
  rfl

/-- Settles O4: the checks in their order, each over the state with the fields stored. -/
theorem triggerChecksApplyInOrder : Obligations.TriggerChecksApplyInOrder := by
  intro s h d hcfg hr hacc hb hpio stored
  have hstored : s.setCtrl h ((s.ctrl.get h).setCommand1 s.cfg d) = stored := by
    rw [Ctrl.setCommand1, hcfg, storeCommand1_defaults]; rfl
  refine ⟨startTransfer h stored, by rw [exec_wrCommand1_trigger hacc hb (by rw [hcfg]; exact hpio), hstored], ?_⟩
  have hget : stored.ctrl.get h = { s.ctrl.get h with command1 := d &&& 0x7FFFF83F } := PerHandle.get_set_self _ _ _
  have hcheck : checkConfig stored.cfg (stored.ctrl.get h).command1 = checkConfig Config.defaults d := by
    rw [hget, ← checkConfig_and_rw, ← hcfg]
  split_ifs with hwait hflush hbits hpacked hsw hdir
  · rw [startTransfer_unsettled]
    · exact Faulted.raise _ _
    · obtain ⟨w, hw, hlt⟩ := hwait
      rw [← Bool.not_eq_true, Ctrl.settled_iff]
      exact fun hall => absurd (hall w (by rw [hget]; exact hw)) (Nat.not_le.2 hlt)
  all_goals
    have hset : (stored.ctrl.get h).settled stored.now = true := by
      rw [Ctrl.settled_iff, hget]
      exact fun w hw => Nat.not_lt.1 fun hlt => hwait ⟨w, hw, hlt⟩
  · rw [startTransfer_flushing hset (by rwa [hget])]
    exact Faulted.raise _ _
  all_goals
    rw [not_or, Bool.not_eq_true, Bool.not_eq_true] at hflush
    have hft : (stored.ctrl.get h).flushTx = false := by rw [hget]; exact hflush.1
    have hfr : (stored.ctrl.get h).flushRx = false := by rw [hget]; exact hflush.2
    rw [checkConfig_defaults] at hcheck
  · rw [startTransfer_unsupported (why := .bitLength) hset hft hfr (by rw [hcheck, if_pos hbits])]
    exact Refused.refuse _ hr
  all_goals rw [if_neg hbits] at hcheck
  · rw [startTransfer_unsupported (why := .packed) hset hft hfr (by rw [hcheck, if_pos hpacked])]
    exact Refused.refuse _ hr
  all_goals rw [if_neg hpacked] at hcheck
  · rw [startTransfer_unsupported (why := .hwChipSelect) hset hft hfr (by rw [hcheck, hsw]; rfl)]
    exact Refused.refuse _ hr
  all_goals rw [if_neg (by simpa using hsw)] at hcheck
  · rw [startTransfer_unsupported (why := .noDirection) hset hft hfr (by rw [hcheck, hdir.1, hdir.2]; rfl)]
    exact Refused.refuse _ hr
  · rw [startTransfer_starts hset hft hfr (by rw [hcheck, if_neg (by simpa using hdir)])]
    simp

end Sys2Proof.Machine
end

section
/-! The status, block-size and FIFO accesses (40_register_access R103 to R110), and the rejected ones (R215, R220). -/

namespace Sys2Proof.Machine

open Sys2Proof.Config (Params)

/-! ## TRANS_STATUS -/

theorem getLsbD_transStatusWord (p : Params) (c : Ctrl) (draw : Word) {k : Nat} (hk : k < 32) :
    (transStatusWord p c draw).getLsbD k = if k = p.rdy ∧ c.stale = false then c.rdy else draw.getLsbD k := by
  unfold transStatusWord
  cases hs : c.stale with
  | true => simp
  | false => simp [getLsbD_putBit _ _ _ _ hk]

/-- Settles O5: only RDY is not the draw, and it is when the window is open. -/
theorem readTransStatusShowsReady : Obligations.ReadTransStatusShowsReady := by
  intro s h hrdy hacc
  refine ⟨⟨transStatusWord s.cfg (s.ctrl.get h) s.drawn, s.afterDraw.script, s.afterDraw.drawIx, ?_, fun hst => ?_⟩,
    fun w => ⟨transStatusWord s.cfg (s.ctrl.get h) w, ?_, fun k hk => getLsbD_transStatusWord _ _ _ hk⟩⟩
  · rw [exec_rdTransStatus hacc, State.afterDraw_eq]
    rfl
  · rw [getLsbD_transStatusWord _ _ _ hrdy, if_pos ⟨rfl, hst⟩]
  · rw [exec_rdTransStatus (s := { s with script := w :: s.script }) hacc]
    rfl

/-- Settles O6: write 1 to clear. -/
theorem writeTransStatusClearsReady : Obligations.WriteTransStatusClearsReady := by
  intro s h d hacc
  have hw1c : w1c d s.cfg.rdy (s.ctrl.get h).rdy =
      if d.getLsbD s.cfg.rdy = true then false else (s.ctrl.get h).rdy := by
    cases hd : d.getLsbD s.cfg.rdy <;> simp [w1c, hd]
  rw [exec_wrTransStatus hacc, Ctrl.clearRdy, hw1c]
  rfl

/-! ## FIFO_STATUS -/

/-- The fields of the TX FIFO at the default positions (R34, R41). -/
theorem putTxFields_defaults (c : Ctrl) (v : Word) : putTxFields Config.defaults c v =
    if c.flushTx then v
    else putBit (putBit (putField v 16 7 (BitVec.ofNat 7 (64 - c.txq.length))) 3 (c.txq.length == 64)) 2
      (c.txq.length == 0) := rfl

/-- The fields of the RX FIFO at the default positions (R34, R41). -/
theorem putRxFields_defaults (c : Ctrl) (v : Word) : putRxFields Config.defaults c v =
    if c.flushRx then v
    else putBit (putBit (putField v 23 7 (BitVec.ofNat 7 c.rxq.length)) 1 (c.rxq.length == 64)) 0
      (c.rxq.length == 0) := rfl

/-- The fields of the TX FIFO change no other bit of the word (R34). -/
theorem getLsbD_putTxFields_apart (c : Ctrl) (v : Word) {k : Nat} (hk : k < 32) (h2 : k ≠ 2) (h3 : k ≠ 3)
    (hcount : k < 16 ∨ 23 ≤ k) : (putTxFields Config.defaults c v).getLsbD k = v.getLsbD k := by
  rw [putTxFields_defaults]
  split
  · rfl
  · rw [getLsbD_putBit _ _ _ _ hk, if_neg h2, getLsbD_putBit _ _ _ _ hk, if_neg h3, getLsbD_putField _ _ _ _ _ hk,
      if_neg (by omega)]

/-- The fields of the RX FIFO change no other bit of the word (R34). -/
theorem getLsbD_putRxFields_apart (c : Ctrl) (v : Word) {k : Nat} (hk : k < 32) (h0 : k ≠ 0) (h1 : k ≠ 1)
    (hcount : k < 23 ∨ 30 ≤ k) : (putRxFields Config.defaults c v).getLsbD k = v.getLsbD k := by
  rw [putRxFields_defaults]
  split
  · rfl
  · rw [getLsbD_putBit _ _ _ _ hk, if_neg h0, getLsbD_putBit _ _ _ _ hk, if_neg h1, getLsbD_putField _ _ _ _ _ hk,
      if_neg (by omega)]

theorem getLsbD_putFlagBits (c : Ctrl) (v : Word) {k : Nat} (hk : k < 32) :
    (putFlagBits Config.defaults c v).getLsbD k =
      if k = 14 then c.flushTx else if k = 15 then c.flushRx else if k = 4 then c.rxUnf else if k = 5 then c.rxOvf
      else if k = 6 then c.txUnf else if k = 7 then c.txOvf else if k = 8 then c.err else v.getLsbD k := by
  simp only [putFlagBits, getLsbD_putBit _ _ _ _ hk]
  rfl

/-- The flags and the flush bits of a read of `FIFO_STATUS` (R105). -/
theorem getLsbD_fifoStatusWord_flag (c : Ctrl) (draw : Word) {k : Nat} (hk : 4 ≤ k ∧ k < 16) :
    (fifoStatusWord Config.defaults c draw).getLsbD k = (putFlagBits Config.defaults c draw).getLsbD k := by
  rw [fifoStatusWord, getLsbD_putRxFields_apart, getLsbD_putTxFields_apart] <;> omega

theorem getField_putTxFields_count {c : Ctrl} (v : Word) (hf : c.flushTx = false) :
    getField (putTxFields Config.defaults c v) 16 7 = BitVec.ofNat 7 (64 - c.txq.length) := by
  simp only [putTxFields_defaults, hf, Bool.false_eq_true, if_false]
  rw [getField_putBit_apart _ _ _ _ _ (by decide) (by decide), getField_putBit_apart _ _ _ _ _ (by decide) (by decide)]
  exact getField_putField_self _ _ _ _ (by decide)

theorem getField_putRxFields_count {c : Ctrl} (v : Word) (hf : c.flushRx = false) :
    getField (putRxFields Config.defaults c v) 23 7 = BitVec.ofNat 7 c.rxq.length := by
  simp only [putRxFields_defaults, hf, Bool.false_eq_true, if_false]
  rw [getField_putBit_apart _ _ _ _ _ (by decide) (by decide), getField_putBit_apart _ _ _ _ _ (by decide) (by decide)]
  exact getField_putField_self _ _ _ _ (by decide)

theorem getField_putRxFields_txCount (c : Ctrl) (v : Word) :
    getField (putRxFields Config.defaults c v) 16 7 = getField v 16 7 := by
  apply BitVec.eq_of_getLsbD_eq
  intro i hi
  simp only [getField, BitVec.getLsbD_extractLsb', hi, decide_true, Bool.true_and]
  rw [getLsbD_putRxFields_apart] <;> omega

theorem getLsbD_putTxFields_levels {c : Ctrl} (v : Word) (hf : c.flushTx = false) :
    (putTxFields Config.defaults c v).getLsbD 3 = (c.txq.length == 64) ∧
      (putTxFields Config.defaults c v).getLsbD 2 = (c.txq.length == 0) := by
  simp only [putTxFields_defaults, hf, Bool.false_eq_true, if_false]
  rw [getLsbD_putBit _ _ _ _ (by decide), getLsbD_putBit _ _ _ _ (by decide), getLsbD_putBit _ _ _ _ (by decide)]
  exact ⟨rfl, rfl⟩

theorem getLsbD_putRxFields_levels {c : Ctrl} (v : Word) (hf : c.flushRx = false) :
    (putRxFields Config.defaults c v).getLsbD 1 = (c.rxq.length == 64) ∧
      (putRxFields Config.defaults c v).getLsbD 0 = (c.rxq.length == 0) := by
  simp only [putRxFields_defaults, hf, Bool.false_eq_true, if_false]
  rw [getLsbD_putBit _ _ _ _ (by decide), getLsbD_putBit _ _ _ _ (by decide), getLsbD_putBit _ _ _ _ (by decide)]
  exact ⟨rfl, rfl⟩

/-- The fields of the TX FIFO in a read of `FIFO_STATUS` (R41, R105). -/
theorem fifoStatusWord_txFields {c : Ctrl} (draw : Word) (hf : c.flushTx = false) (hq : c.txq.length ≤ 64) :
    let v := fifoStatusWord Config.defaults c draw
    (v.extractLsb' 16 7).toNat = 64 - c.txq.length ∧ (v.getLsbD 3 = true ↔ c.txq.length = 64) ∧
      (v.getLsbD 2 = true ↔ c.txq = []) := by
  dsimp only
  have hcount := getField_putRxFields_txCount c (putTxFields Config.defaults c (putFlagBits Config.defaults c draw))
  rw [getField_putTxFields_count _ hf] at hcount
  obtain ⟨hfull, hempty⟩ := getLsbD_putTxFields_levels (putFlagBits Config.defaults c draw) hf
  refine ⟨?_, ?_, ?_⟩
  · rw [fifoStatusWord, ← getField, hcount, BitVec.toNat_ofNat]
    omega
  · rw [fifoStatusWord, getLsbD_putRxFields_apart _ _ (by decide) (by decide) (by decide) (by decide), hfull, beq_iff_eq]
  · rw [fifoStatusWord, getLsbD_putRxFields_apart _ _ (by decide) (by decide) (by decide) (by decide), hempty, beq_iff_eq,
      List.length_eq_zero_iff]

/-- The fields of the RX FIFO in a read of `FIFO_STATUS` (R41, R105). -/
theorem fifoStatusWord_rxFields {c : Ctrl} (draw : Word) (hf : c.flushRx = false) (hq : c.rxq.length ≤ 64) :
    let v := fifoStatusWord Config.defaults c draw
    (v.extractLsb' 23 7).toNat = c.rxq.length ∧ (v.getLsbD 1 = true ↔ c.rxq.length = 64) ∧
      (v.getLsbD 0 = true ↔ c.rxq = []) := by
  dsimp only
  obtain ⟨hfull, hempty⟩ := getLsbD_putRxFields_levels
    (putTxFields Config.defaults c (putFlagBits Config.defaults c draw)) hf
  refine ⟨?_, ?_, ?_⟩
  · rw [fifoStatusWord, ← getField, getField_putRxFields_count _ hf, BitVec.toNat_ofNat]
    omega
  · rw [fifoStatusWord, hfull, beq_iff_eq]
  · rw [fifoStatusWord, hempty, beq_iff_eq, List.length_eq_zero_iff]

/-- Settles O7: flags and flush bits, then the fields of each FIFO. -/
theorem readFifoStatusShowsFlagsAndCounts : Obligations.ReadFifoStatusShowsFlagsAndCounts := by
  intro s h hcfg hacc htx hrx
  have hflag : ∀ k, 4 ≤ k ∧ k < 16 → (fifoStatusWord s.cfg (s.ctrl.get h) s.drawn).getLsbD k =
      (putFlagBits Config.defaults (s.ctrl.get h) s.drawn).getLsbD k := fun k hk => by
    rw [hcfg, getLsbD_fifoStatusWord_flag _ _ hk]
  refine ⟨fifoStatusWord s.cfg (s.ctrl.get h) s.drawn, s.afterDraw.script, s.afterDraw.drawIx, ?_, ?_, ?_, ?_, ?_, ?_,
    ?_, ?_, fun hf => ?_, fun hf => ?_⟩
  · rw [exec_rdFifoStatus hacc, State.afterDraw_eq]
    rfl
  iterate 7 rw [hflag _ (by decide), getLsbD_putFlagBits _ _ (by decide)]; rfl
  · rw [hcfg]
    exact fifoStatusWord_txFields _ hf htx
  · rw [hcfg]
    exact fifoStatusWord_rxFields _ hf hrx

theorem asksFlush_defaults (d : Word) : asksFlush Config.defaults d = (d.getLsbD 14 || d.getLsbD 15) := rfl

/-- Settles O8: a flush while busy faults; every other write clears and starts in one step. -/
theorem writeFifoStatusClearsAndFlushes : Obligations.WriteFifoStatusClearsAndFlushes := by
  intro s h d hcfg hacc
  refine ⟨fun ⟨hd, hb⟩ => ⟨_, exec_wrFifoStatus_busy hacc ?_, Faulted.raise _ _⟩, fun hd => ?_⟩
  · rw [hcfg, asksFlush_defaults, hb, Bool.and_true, Bool.or_eq_true]
    exact hd
  · have hquiet : (asksFlush s.cfg d && (s.ctrl.get h).busy) = false := by
      rw [hcfg, asksFlush_defaults, Bool.and_eq_false_iff, Bool.or_eq_false_iff]
      exact hd
    rw [exec_wrFifoStatus hacc hquiet, hcfg]
    simp only [State.setCtrl, Ctrl.clearErrors, Ctrl.startFlush, Ctrl.touch, w1c, hcfg]
    rfl

/-! ## BLK_SIZE -/

theorem storeBlkSize_defaults (d : Word) : storeBlkSize Config.defaults d = (d.extractLsb' 0 16).setWidth 32 := by
  rw [storeBlkSize, mBlkSize_defaults]
  apply BitVec.eq_of_getLsbD_eq
  intro i hi
  have hmask : (0x0000FFFF : Word).getLsbD i = decide (i < 16) := by revert i; decide
  rw [BitVec.getLsbD_and, hmask, BitVec.getLsbD_setWidth, BitVec.getLsbD_extractLsb']
  simp [hi, Bool.and_comm]

/-- Settles O10: truncation when idle, the fault when busy. -/
theorem writeBlkSizeStoresLowBits : Obligations.WriteBlkSizeStoresLowBits := by
  intro s h d hcfg hacc
  refine ⟨fun hb => ⟨_, exec_wrBlkSize_busy hacc d hb, Faulted.raise _ _⟩, fun hb => ?_⟩
  have hstore : storeBlkSize s.cfg d = (d.extractLsb' 0 16).setWidth 32 := by rw [hcfg, storeBlkSize_defaults]
  rw [exec_wrBlkSize hacc d hb, Ctrl.setBlkSize, hstore]
  rfl

/-! ## The FIFO ports -/

/-- Settles O11: a push, an overflow, or the fault of a flush. -/
theorem writeTxFifoPushesOrOverflows : Obligations.WriteTxFifoPushesOrOverflows := by
  intro s h d hacc
  refine ⟨fun hf => ⟨_, exec_wrTxFifo_flushing hacc d hf, Faulted.raise _ _⟩, fun hf => ?_⟩
  rw [exec_wrTxFifo hacc d hf]
  unfold Ctrl.pushTx
  split <;> rename_i hq <;> simp only [Ctrl.touch_txq] at hq <;> simp only [hq, if_true, if_false] <;> rfl

/-- Settles O12: a pop, an underflow, or the fault of a flush. -/
theorem readRxFifoPopsOrUnderflows : Obligations.ReadRxFifoPopsOrUnderflows := by
  intro s h hacc
  refine ⟨fun hf => ⟨_, exec_rdRxFifo_flushing hacc hf, Faulted.raise _ _⟩,
    fun hf => ⟨fun w q hq => exec_rdRxFifo_head hacc hf hq, fun hq =>
      ⟨⟨s.drawn, s.afterDraw.script, s.afterDraw.drawIx, ?_⟩, fun v => ⟨_, exec_rdRxFifo_empty hacc hf hq, rfl⟩⟩⟩⟩
  rw [exec_rdRxFifo_empty hacc hf hq, State.afterDraw_eq]
  rfl

/-! ## Rejected accesses -/

/-- Settles O13: a master's verdict is its fault. -/
theorem rejectedAccessFaultsItsMaster : Obligations.RejectedAccessFaultsItsMaster := by
  intro s m a v ts hr ha hh hv
  refine ⟨_, ?_, Faulted.raise (faultOf v) { s with agenda := ts, actor := .master m }, State.halted_raise_self _ _⟩
  rw [step_of_agenda hr ha]
  have hh' : ({ s with agenda := ts, actor := .master m } : State).halted (.master m) = false := hh
  simp only [takeTurn, masterStep, turnAgent, hh', hv, Bool.false_eq_true, if_false]

theorem State.mayAccess_eq_false {s : State} {h : Handle} (hb : (s.eng.get h).busyCmd = true)
    (ha : s.actor ≠ .engine h) : s.mayAccess h = false := by
  simp [State.mayAccess, hb, ha]

/-- Settles O14: `exec_refused` for an agent that is not the owner. -/
theorem accessOfOwnedControllerIsRefused : Obligations.AccessOfOwnedControllerIsRefused :=
  fun _ _ _ hr hi hb ha => ⟨_, exec_refused hi (State.mayAccess_eq_false hb ha), Refused.refuse _ hr⟩

end Sys2Proof.Machine
end

section
/-! The Time Base accesses (60_exceptions R222 to R226). -/

namespace Sys2Proof.Machine

open Sys2Proof.Config (Params UsecCfg)

theorem toNat_counterWord (t : TimeBase) (now : Nat) :
    (counterWord t now).toNat = (t.cntr0.toNat + now) % 2 ^ 32 := by
  rw [counterWord, BitVec.toNat_add, BitVec.toNat_ofNat, Nat.add_mod_mod]

/-- Settles O15: `toNat_counterWord`, and the refusal of every write. -/
theorem counterReadsMicrosecondsAndRefusesWrites : Obligations.CounterReadsMicrosecondsAndRefusesWrites := by
  refine ⟨fun s => ⟨counterWord s.tmr s.now, rfl, toNat_counterWord _ _⟩, fun s d hr => ?_⟩
  rw [exec, execWrTmrCntr1us, State.refuse, hr, Option.getD_none]

/-! ## USEC_CFG -/

/-- Two words agree in their low half when they agree in its two bytes. -/
theorem extractLsb'_sixteen_eq_iff (d : Word) (x : BitVec 16) :
    d.extractLsb' 0 16 = x ↔ d.extractLsb' 8 8 = x.extractLsb' 8 8 ∧ d.extractLsb' 0 8 = x.extractLsb' 0 8 := by
  have hJoin : d.extractLsb' 8 8 ++ d.extractLsb' 0 8 = d.extractLsb' 0 16 :=
    BitVec.extractLsb'_append_extractLsb'_eq_extractLsb' rfl
  have hJoin' : x.extractLsb' 8 8 ++ x.extractLsb' 0 8 = x.extractLsb' 0 16 :=
    BitVec.extractLsb'_append_extractLsb'_eq_extractLsb' rfl
  rw [BitVec.extractLsb'_eq_self] at hJoin'
  constructor
  · rintro rfl
    exact ⟨(BitVec.extractLsb'_extractLsb'_of_le (by decide)).symm, (BitVec.extractLsb'_extractLsb'_of_le (by decide)).symm⟩
  · rintro ⟨hHigh, hLow⟩
    rw [← hJoin, ← hJoin', hHigh, hLow]

/-- CFG(F_REF) of the default layout as the low half of a register word (R223). -/
def configuredWord : Config.RefClock → BitVec 16
  | .mhz12 => 0x000B
  | .mhz38_4 => 0x04BF

theorem usecCfgField_of_defaults {p : Params} (d : Word) (hp : p.timeBase = Config.defaults.timeBase) :
    usecCfgField p d = { dividend := d.extractLsb' 8 8, divisor := d.extractLsb' 0 8 } := by
  rw [usecCfgField, hp]
  rfl

theorem usecCfgOf_of_defaults {p : Params} (hp : p.timeBase = Config.defaults.timeBase) :
    usecCfgOf p =
      { dividend := (configuredWord p.fRef).extractLsb' 8 8, divisor := (configuredWord p.fRef).extractLsb' 0 8 } := by
  rw [usecCfgOf, hp]
  cases p.fRef <;> rfl

theorem usecCfgField_eq_configured_iff {p : Params} (d : Word) (hp : p.timeBase = Config.defaults.timeBase) :
    usecCfgField p d = usecCfgOf p ↔ d.extractLsb' 0 16 = configuredWord p.fRef := by
  rw [usecCfgField_of_defaults d hp, usecCfgOf_of_defaults hp, extractLsb'_sixteen_eq_iff, UsecCfg.mk.injEq]

/-- Settles O16: the read by its two fields, the write by whether they are the configured ones. -/
theorem dividerReadsAndKeepsItsValue : Obligations.DividerReadsAndKeepsItsValue := by
  intro s d hp hr configured
  have hconfigured : configured = configuredWord s.cfg.fRef := by
    show (match s.cfg.fRef with | .mhz12 => (0x000B : BitVec 16) | .mhz38_4 => 0x04BF) = _
    cases s.cfg.fRef <;> rfl
  have hread := usecCfgField_usecCfgWord s.cfg s.tmr.usecCfg s.drawn (by rw [hp]; decide)
  rw [usecCfgField_of_defaults _ hp] at hread
  rw [hconfigured, ne_eq, ← usecCfgField_eq_configured_iff d hp]
  refine ⟨⟨usecCfgWord s.cfg s.tmr.usecCfg s.drawn, s.afterDraw.script, s.afterDraw.drawIx, ?_, ?_, ?_⟩,
    fun hd => ?_, fun hd => ?_⟩
  · rw [exec, execRdTmrUsecCfg, State.afterDraw_eq]
    rfl
  · exact congrArg UsecCfg.dividend hread
  · exact congrArg UsecCfg.divisor hread
  · rw [exec, execWrTmrUsecCfg, if_neg (not_not.2 hd), usecCfgField_of_defaults d hp]
  · rw [exec, execWrTmrUsecCfg, if_pos hd, State.refuse, hr, Option.getD_none]

/-! ## CNTR_FREEZE -/

theorem freezeField_of_defaults {p : Params} (d : Word) (hp : p.timeBase = Config.defaults.timeBase) :
    freezeField p d = { cpu0 := d.getLsbD 0, cpu1 := d.getLsbD 1, cpu2 := d.getLsbD 2, cpu3 := d.getLsbD 3,
                        cop := d.getLsbD 4 } := by
  rw [freezeField, hp]
  rfl

/-- Settles O17: the five bits stored, and read back by `freezeField_freezeWord`. -/
theorem freezeBitsReadWhatWasWritten : Obligations.FreezeBitsReadWhatWasWritten := by
  intro s d hp
  have hread := freezeField_freezeWord s.cfg s.tmr.freeze s.drawn (by rw [hp]; decide)
  rw [freezeField_of_defaults _ hp] at hread
  refine ⟨by rw [exec, execWrTmrCntrFreeze, freezeField_of_defaults d hp],
    freezeWord s.cfg s.tmr.freeze s.drawn, s.afterDraw.script, s.afterDraw.drawIx, ?_,
    congrArg Freeze.cpu0 hread, congrArg Freeze.cpu1 hread, congrArg Freeze.cpu2 hread, congrArg Freeze.cpu3 hread,
    congrArg Freeze.cop hread⟩
  rw [exec, execRdTmrCntrFreeze, State.afterDraw_eq]
  rfl

end Sys2Proof.Machine
end

section
/-! Acceptance of the commands (42_polling_engine R170, R179, R181). -/

namespace Sys2Proof.Machine

section Acceptance

variable {h : Handle} {s : State}

theorem whenIdle_of_busy (k : Engine → State) (hb : (s.eng.get h).busyCmd = true) :
    whenIdle h s k = s.refuse (.concurrentCommand h) := if_pos hb

theorem whenIdle_of_idle (k : Engine → State) (hb : (s.eng.get h).busyCmd = false) :
    whenIdle h s k = k (s.eng.get h) := if_neg (by simp [hb])

theorem whenInitialized_of_initialized (k : Engine → State) (hb : (s.eng.get h).busyCmd = false)
    (hi : (s.eng.get h).initialized = true) : whenInitialized h s k = k (s.eng.get h) := by
  rw [whenInitialized, whenIdle_of_idle _ hb, if_pos hi]

theorem whenInitialized_of_fresh (k : Engine → State) (hb : (s.eng.get h).busyCmd = false)
    (hi : (s.eng.get h).initialized = false) : whenInitialized h s k = s.refuse (.notInitialized h) := by
  rw [whenInitialized, whenIdle_of_idle _ hb, if_neg (by simp [hi])]

theorem State.refuse_of_none (r : Refusal) (hr : s.refusal = none) : s.refuse r = { s with refusal := some r } := by
  rw [State.refuse, hr, Option.getD_none]

/-- One command at a time, whichever it is (R170). -/
theorem exec_command_busy {i : Instr} (hi : commandEngine i = some h) (hb : (s.eng.get h).busyCmd = true) :
    exec i s = .next (s.refuse (.concurrentCommand h)) := by
  cases i <;> simp only [commandEngine, Option.some.injEq, reduceCtorEq] at hi <;> subst hi <;>
    simp only [exec, execInit, execFlushFifos, execSend, execReceive, whenInitialized, whenIdle_of_busy _ hb]

theorem exec_init_idle (hb : (s.eng.get h).busyCmd = false) (hi : (s.eng.get h).initialized = false) :
    exec (.init h) s = .next (s.setEng h ((s.eng.get h).accept .init)) := by
  rw [exec, execInit, whenIdle_of_idle _ hb, if_neg (by simp [hi])]

theorem exec_flushFifos_idle (hb : (s.eng.get h).busyCmd = false) :
    exec (.flushFifos h) s = .next (s.setEng h ((s.eng.get h).accept .flushFifos)) := by
  rw [exec, execFlushFifos, whenIdle_of_idle _ hb]

theorem exec_send_four (hb : (s.eng.get h).busyCmd = false) (hi : (s.eng.get h).initialized = true)
    (b0 b1 b2 b3 : Byte) : exec (.send h 4 [b0, b1, b2, b3]) s =
      .next (s.setEng h (Engine.accept .send { s.eng.get h with txbuf := ⟨b0, b1, b2, b3⟩ })) := by
  rw [exec, execSend, whenInitialized_of_initialized _ hb hi, if_neg (by simp [Config.sendLen])]
  rfl

/-- Four is the only length SEND accepts, and then the bytes are four (R179). -/
theorem exec_send_invalid (hb : (s.eng.get h).busyCmd = false) (hi : (s.eng.get h).initialized = true)
    {len : BitVec 16} {bytes : List Byte} (hl : len ≠ 4 ∨ bytes.length ≠ len.toNat) :
    exec (.send h len bytes) s = .next (s.hand h .invalidArgument) := by
  have hlen : len.toNat ≠ Config.sendLen ∨ bytes.length ≠ len.toNat :=
    hl.imp_left fun hne heq => hne (BitVec.eq_of_toNat_eq heq)
  rw [exec, execSend, whenInitialized_of_initialized _ hb hi, if_pos hlen]

theorem exec_receive_accepted (hb : (s.eng.get h).busyCmd = false) (hi : (s.eng.get h).initialized = true)
    {len : BitVec 16} (hl : 1 ≤ len.toNat ∧ len.toNat ≤ s.cfg.fifoDepth) :
    exec (.receive h len) s = .next (s.setEng h (Engine.accept .receive { s.eng.get h with len := len.toNat })) := by
  rw [exec, execReceive, whenInitialized_of_initialized _ hb hi, if_neg (by omega)]

theorem exec_receive_refused (hb : (s.eng.get h).busyCmd = false) (hi : (s.eng.get h).initialized = true)
    {len : BitVec 16} (hl : ¬ (1 ≤ len.toNat ∧ len.toNat ≤ s.cfg.fifoDepth)) :
    exec (.receive h len) s = .next (s.refuse (.receiveLength len.toNat)) := by
  rw [exec, execReceive, whenInitialized_of_initialized _ hb hi, if_pos (by omega)]

end Acceptance

/-- Settles O18. -/
theorem initAndFlushFifosAreAccepted : Obligations.InitAndFlushFifosAreAccepted :=
  fun _ _ hb => ⟨exec_init_idle hb, exec_flushFifos_idle hb⟩

/-- Settles O19: `exec_send_four` and `exec_send_invalid`. -/
theorem sendIsAcceptedWithFourBytesOnly : Obligations.SendIsAcceptedWithFourBytesOnly :=
  fun _ _ hb hi => ⟨exec_send_four hb hi, fun _ _ hl => exec_send_invalid hb hi hl⟩

/-- Settles O20: `exec_receive_accepted` and `exec_receive_refused`. -/
theorem receiveIsAcceptedWithinTheFifo : Obligations.ReceiveIsAcceptedWithinTheFifo := by
  intro s h len hr hb hi
  split_ifs with hl
  · exact exec_receive_accepted hb hi hl
  · rw [exec_receive_refused hb hi hl, State.refuse_of_none _ hr]

/-- Settles O21: the checks of R170 in their order. -/
theorem contractBreachesAreRefused : Obligations.ContractBreachesAreRefused := by
  intro s h len bytes hr
  refine ⟨fun hb i hi => ?_, fun hb hinit => ?_, fun hb hinit i hi => ?_⟩
  · simp only [List.mem_cons, List.not_mem_nil, or_false] at hi
    rw [← State.refuse_of_none _ hr]
    obtain rfl | rfl | rfl | rfl := hi <;> exact exec_command_busy rfl hb
  · rw [exec, execInit, whenIdle_of_idle _ hb, if_pos hinit, State.refuse_of_none _ hr]
  · simp only [List.mem_cons, List.not_mem_nil, or_false] at hi
    rw [← State.refuse_of_none _ hr]
    obtain rfl | rfl := hi
    · rw [exec, execSend, whenInitialized_of_fresh _ hb hinit]
    · rw [exec, execReceive, whenInitialized_of_fresh _ hb hinit]

/-- Settles O22: a malformed word is the fault of the engine it names. -/
theorem malformedCommandFaultsItsEngine : Obligations.MalformedCommandFaultsItsEngine := by
  intro s c bytes ts hr ha hc hb
  refine ⟨({ s with agenda := ts, actor := .host } : State).raiseAs (.engine (.ofBits (cmdH c))) (.illegalCommand c),
    ?_, ?_, fun r => State.mem_raiseAs_faults _ _ _ r⟩
  · rw [step_of_agenda hr ha]
    simp [takeTurn, hostStep, turnAgent, hb, decodeCmd_of_malformed bytes hc, faultOf]
  · unfold State.raiseAs
    split <;> rfl

end Sys2Proof.Machine
end

section
/-! Frames, completion, flush completion and chip select (41_controller_operation R143 to R155). -/

namespace Sys2Proof.Machine

open Sys2Proof.Config (Params)

/-! ## One frame, field by field (R143, R144, R151) -/

section Frame

variable (c : Ctrl) (p : Params) (h : Handle) (i : FrameInputs)

theorem Ctrl.frame_txq : (c.frame p h i).txq = if c.lat.txEn then c.txq.tail else c.txq := by
  simp [Ctrl.frame, Ctrl.frameTx_txq]

theorem Ctrl.frame_rxq : (c.frame p h i).rxq =
    if c.lat.rxEn = true ∧ c.rxq.length < p.fifoDepth then c.rxq ++ [rxEntry i.upper i.miso] else c.rxq := by
  simp [Ctrl.frame, Ctrl.frameRx_rxq]

theorem Ctrl.frame_txUnf : (c.frame p h i).txUnf = (c.txUnf || (c.lat.txEn && c.txq.isEmpty)) := by
  simp [Ctrl.frame, Ctrl.frameTx_txUnf]

theorem Ctrl.frame_rxOvf : (c.frame p h i).rxOvf =
    (c.rxOvf || (c.lat.rxEn && decide (p.fifoDepth ≤ c.rxq.length))) := by
  simp [Ctrl.frame, Ctrl.frameRx_rxOvf]

theorem Ctrl.frame_err : (c.frame p h i).err =
    (c.err || (c.lat.txEn && c.txq.isEmpty) || (c.lat.rxEn && decide (p.fifoDepth ≤ c.rxq.length)) ||
      i.genericError) := by
  simp [Ctrl.frame, Ctrl.frameGeneric_err, Ctrl.frameRx_err, Ctrl.frameTx_err]

end Frame

/-- Settles O23: each field by its own lemma. -/
theorem frameShiftsOneByte : Obligations.FrameShiftsOneByte := by
  intro p h i c underrun overrun
  rw [Ctrl.frame, Ctrl.mk.injEq]
  simp [Ctrl.frameGeneric_err, Ctrl.frameRx_err, Ctrl.frameTx_err, Ctrl.frameTx_txq, Ctrl.frameTx_txUnf,
    Ctrl.frameRx_rxq, Ctrl.frameRx_rxOvf, Ctrl.frameEvent, rxEntry, underrun, overrun]
  unfold Ctrl.frameMosi
  cases c.txq <;> rfl

/-! ## A block of frames -/

/-- The frames a list of inputs shifts, in order (R143, R144). -/
def Ctrl.frames (p : Params) (h : Handle) (is : List FrameInputs) (c : Ctrl) : Ctrl :=
  is.foldl (fun c i => c.frame p h i) c

section Frames

variable {p : Params} {h : Handle}

theorem Ctrl.frames_cons (i : FrameInputs) (is : List FrameInputs) (c : Ctrl) :
    c.frames p h (i :: is) = (c.frame p h i).frames p h is := rfl

theorem Ctrl.frames_busy (is : List FrameInputs) (c : Ctrl) : (c.frames p h is).busy = c.busy := by
  induction is generalizing c with
  | nil => rfl
  | cons i is ih => rw [Ctrl.frames_cons, ih, Ctrl.frame_busy]

theorem Ctrl.frames_framesLeft (is : List FrameInputs) (c : Ctrl) :
    (c.frames p h is).framesLeft = c.framesLeft - is.length := by
  induction is generalizing c with
  | nil => rfl
  | cons i is ih => rw [Ctrl.frames_cons, ih, Ctrl.frame_framesLeft, List.length_cons]; omega

/-- One event is appended for each frame, with the peripheral's byte in it. -/
theorem Ctrl.frames_wire (is : List FrameInputs) (c : Ctrl) :
    ∃ fs, (c.frames p h is).wire = c.wire ++ fs ∧ fs.map (·.miso) = is.map (·.miso) := by
  induction is generalizing c with
  | nil => exact ⟨[], (List.append_nil _).symm, rfl⟩
  | cons i is ih =>
    obtain ⟨fs, hfs, hmiso⟩ := ih (c.frame p h i)
    refine ⟨c.frameEvent p h i :: fs, ?_, ?_⟩
    · rw [Ctrl.frames_cons, hfs, Ctrl.frame_wire, List.append_assoc, List.singleton_append]
    · rw [List.map_cons, List.map_cons, hmiso]
      rfl

/-- Frames of a receive-only transfer fill the RX FIFO as long as it has room, and raise nothing. -/
theorem Ctrl.frames_receive (is : List FrameInputs) (c : Ctrl) (hrx : c.lat.rxEn = true) (htx : c.lat.txEn = false)
    (hroom : c.rxq.length + is.length ≤ p.fifoDepth) (hgen : ∀ i ∈ is, i.genericError = false) :
    (c.frames p h is).rxq = c.rxq ++ is.map (fun i => rxEntry i.upper i.miso) ∧
      (c.frames p h is).err = c.err ∧ (c.frames p h is).rxOvf = c.rxOvf := by
  induction is generalizing c with
  | nil => exact ⟨(List.append_nil _).symm, rfl, rfl⟩
  | cons i is ih =>
    rw [List.length_cons] at hroom
    have hlt : c.rxq.length < p.fifoDepth := by omega
    have hrxq : (c.frame p h i).rxq = c.rxq ++ [rxEntry i.upper i.miso] := by rw [Ctrl.frame_rxq, if_pos ⟨hrx, hlt⟩]
    have herr : (c.frame p h i).err = c.err := by
      simp [Ctrl.frame_err, htx, hgen i (by simp), Nat.not_le.2 hlt]
    have hovf : (c.frame p h i).rxOvf = c.rxOvf := by
      simp [Ctrl.frame_rxOvf, Nat.not_le.2 hlt]
    obtain ⟨hq, he, ho⟩ := ih (c.frame p h i) (by rwa [Ctrl.frame_lat]) (by rwa [Ctrl.frame_lat])
      (by rw [hrxq, List.length_append, List.length_singleton]; omega) fun j hj => hgen j (List.mem_cons_of_mem _ hj)
    rw [Ctrl.frames_cons, hq, he, ho, hrxq, herr, hovf, List.append_assoc, List.singleton_append, List.map_cons]
    exact ⟨rfl, rfl, rfl⟩

end Frames

@[simp] theorem lowByte_rxEntry (upper : BitVec 24) (miso : Byte) : lowByte (rxEntry upper miso) = miso :=
  BitVec.extractLsb'_append_eq_right

/-- Settles O25: the count, the busy state and the wire of a whole block. -/
theorem transferRunsToTheFullBlock : Obligations.TransferRunsToTheFullBlock := by
  intro p h c is hb hlen
  obtain ⟨fs, hfs, hmiso⟩ := c.frames_wire (p := p) (h := h) is
  have hfsLen : fs.length = is.length := by simpa using congrArg List.length hmiso
  refine ⟨?_, ?_, ?_, ?_⟩
  · exact (c.frames_framesLeft is).trans (by omega)
  · exact (c.frames_busy is).trans hb
  · exact (congrArg List.length hfs).trans (by rw [List.length_append, hfsLen, hlen])
  · exact (congrArg (fun w => (w.drop c.wire.length).map (·.miso)) hfs).trans (by simpa using hmiso)

/-- A frame with a word in the TX FIFO shifts its low byte; with none it underruns (R143, R144). -/
theorem Ctrl.frame_transmit (p : Params) (h : Handle) (i : FrameInputs) (c : Ctrl) (htx : c.lat.txEn = true) :
    (c.frame p h i).wire.map (·.mosi) =
      c.wire.map (·.mosi) ++ [(c.txq.head?.map lowByte).getD i.mosiFree] := by
  simp [Ctrl.frameEvent, Ctrl.frameMosi, htx]

theorem Ctrl.frame_underrun (p : Params) (h : Handle) (i : FrameInputs) {c : Ctrl} (htx : c.lat.txEn = true)
    (hq : c.txq = []) : (c.frame p h i).txUnf = true ∧ (c.frame p h i).err = true := by
  simp [Ctrl.frame_txUnf, Ctrl.frame_err, htx, hq]

theorem Ctrl.frame_txq_nil (p : Params) (h : Handle) (i : FrameInputs) {c : Ctrl} (hq : c.txq = []) :
    (c.frame p h i).txq = [] := by
  simp [Ctrl.frame_txq, hq]

/-- Settles O26: the only word leaves with the first frame, the second underruns, and nothing clears its flags. -/
theorem oneWordForFourFramesUnderruns : Obligations.OneWordForFourFramesUnderruns := by
  intro p h c w i1 i2 i3 i4 htx hq hw
  simp only [List.foldl_cons, List.foldl_nil]
  have hq1 : (c.frame p h i1).txq = [] := by rw [Ctrl.frame_txq, if_pos htx, hq, List.tail_cons]
  have hq2 : ((c.frame p h i1).frame p h i2).txq = [] := Ctrl.frame_txq_nil p h i2 hq1
  have hq3 : (((c.frame p h i1).frame p h i2).frame p h i3).txq = [] := Ctrl.frame_txq_nil p h i3 hq2
  obtain ⟨hunf, herr⟩ := Ctrl.frame_underrun p h i4
    (c := ((c.frame p h i1).frame p h i2).frame p h i3) (by simpa using htx) hq3
  refine ⟨?_, Ctrl.frame_txq_nil p h i4 hq3, hunf, herr⟩
  rw [Ctrl.frame_transmit _ _ _ _ (by simpa using htx), Ctrl.frame_transmit _ _ _ _ (by simpa using htx),
    Ctrl.frame_transmit _ _ _ _ (by simpa using htx), Ctrl.frame_transmit _ _ _ _ htx, hq3, hq2, hq1, hq, hw]
  rfl

/-- Settles O27: `Ctrl.frames_receive` from an empty FIFO. -/
theorem receivedBytesFillTheRxFifo : Obligations.ReceivedBytesFillTheRxFifo := by
  intro p h c is hrx htx hq hlen hgen
  obtain ⟨hrxq, herr, hovf⟩ := c.frames_receive (p := p) (h := h) is hrx htx (by simpa [hq] using hlen) hgen
  refine ⟨(congrArg (List.map lowByte) hrxq).trans ?_, herr, hovf⟩
  simp [hq]

/-! ## The turns of a controller -/

/-- Settles O24: two draws feed the frame. -/
theorem frameTurnTakesOneFrameWhenEnabled : Obligations.FrameTurnTakesOneFrameWhenEnabled := by
  intro s h ts hr ha
  let b : State := { s with agenda := ts, actor := .controller h }
  refine ⟨b.frameInputs, b.afterDraw.afterDraw.script, b.afterDraw.afterDraw.drawIx, ?_⟩
  have hstep : step s = .next (frameStep h b) := step_of_agenda hr ha
  have hen : (b.ctrl.get h).frameEnabled = true ↔ (s.ctrl.get h).busy = true ∧ 0 < (s.ctrl.get h).framesLeft := by
    simp [Ctrl.frameEnabled, b]
  rw [hstep, frameStep]
  by_cases hf : (s.ctrl.get h).busy = true ∧ 0 < (s.ctrl.get h).framesLeft
  · rw [if_pos (hen.2 hf), if_pos hf, State.afterDraw_eq b.afterDraw, State.afterDraw_eq b]
    rfl
  · rw [if_neg (hen.not.2 hf), if_neg hf]

/-- Settles O28: the completion turn. -/
theorem completionSetsReadyAndClearsBusy : Obligations.CompletionSetsReadyAndClearsBusy := by
  intro s h ts hr ha
  have hen : (s.ctrl.get h).completeEnabled = true ↔ (s.ctrl.get h).busy = true ∧ (s.ctrl.get h).framesLeft = 0 := by
    simp [Ctrl.completeEnabled]
  rw [step_of_agenda hr ha, takeTurn, completeStep]
  by_cases hc : (s.ctrl.get h).busy = true ∧ (s.ctrl.get h).framesLeft = 0
  · rw [if_pos (hen.2 hc), if_pos hc]; rfl
  · rw [if_neg (hen.not.2 hc), if_neg hc]; rfl

/-- Settles O29: one turn for each FIFO. -/
theorem flushCompletionEmptiesItsFifo : Obligations.FlushCompletionEmptiesItsFifo := by
  intro s h ts hr
  refine ⟨fun ha => ?_, fun ha => ?_⟩
  · rw [step_of_agenda hr ha, takeTurn, flushTxStep]
    split_ifs <;> rfl
  · rw [step_of_agenda hr ha, takeTurn, flushRxStep]
    split_ifs <;> rfl

/-! ## Chip select -/

theorem getLsbD_csLevels (p : Params) (w : Word) (free : Bool) {n : Nat} (hn : n < 4) :
    (csLevels p w free).getLsbD n = csLevel p w free n := by
  obtain rfl | rfl | rfl | rfl : n = 0 ∨ n = 1 ∨ n = 2 ∨ n = 3 := by omega
  all_goals
    simp only [csLevels, BitVec.getLsbD_append]
    simp

/-- Settles O30: `getLsbD_csLevels` at the default positions. -/
theorem chipSelectLevelsFollowCommand1 : Obligations.ChipSelectLevelsFollowCommand1 := by
  intro w free n hn
  have hpol : (csPolInactive Config.defaults w).getLsbD n = w.getLsbD (22 + n) := by
    rw [csPolInactive, getField, BitVec.getLsbD_extractLsb', decide_eq_true hn, Bool.true_and]
    rfl
  rw [getLsbD_csLevels _ _ _ hn, csLevel, hpol]
  rfl

end Sys2Proof.Machine
end

section
/-! What a turn can do to the parts of the state (00_scope R9, R10): what every turn keeps, and what it can do to a controller. -/

namespace Sys2Proof.Machine

open Sys2Proof.Config (Params Agent Turn)

/-! ## What every turn keeps -/

theorem Kept.trans {s t u : State} (h₁ : Kept s t) (h₂ : Kept t u) : Kept s u where
  cfg := h₂.cfg.trans h₁.cfg
  now := h₂.now.trans h₁.now
  cntr0 := h₂.cntr0.trans h₁.cntr0
  actor := h₂.actor.trans h₁.actor
  agenda := h₂.agenda.trans h₁.agenda
  turnIx := h₂.turnIx.trans h₁.turnIx
  faults := fun r hr => h₂.faults r (h₁.faults r hr)
  nodup := fun hn => h₂.nodup (h₁.nodup hn)

/-- Only the parameters, time, the counter's offset, the turns and the faults matter. -/
theorem Kept.of_eqs {s t : State} (hcfg : t.cfg = s.cfg) (hnow : t.now = s.now) (htmr : t.tmr = s.tmr)
    (hactor : t.actor = s.actor) (hagenda : t.agenda = s.agenda) (hix : t.turnIx = s.turnIx)
    (hfaults : t.faults = s.faults) : Kept s t :=
  ⟨hcfg, hnow, by rw [htmr], hactor, hagenda, hix, fun _ hr => hfaults ▸ hr, fun hn => hfaults ▸ hn⟩

theorem Kept.raiseAs (s : State) (a : Agent) (f : Fault) : Kept s (s.raiseAs a f) where
  cfg := by simp
  now := by simp
  cntr0 := by simp
  actor := by simp
  agenda := by simp
  turnIx := by simp
  faults := fun r hr => (s.mem_raiseAs_faults a f r).2 (.inl hr)
  nodup := s.nodup_raiseAs a f

theorem Kept.refuse (s : State) (r : Refusal) : Kept s (s.refuse r) := .of_eqs rfl rfl rfl rfl rfl rfl rfl

theorem Kept.setCtrl (s : State) (h : Handle) (c : Ctrl) : Kept s (s.setCtrl h c) := .of_eqs rfl rfl rfl rfl rfl rfl rfl

theorem Kept.afterDraw (s : State) : Kept s s.afterDraw := .of_eqs (by simp) (by simp) (by simp) (by simp) (by simp)
  (by simp) (by simp)

theorem OnlyEngine.kept {h : Handle} {u t : State} (ht : OnlyEngine h u t) : Kept u t := by
  obtain ⟨e, rs, rfl⟩ := ht
  exact .of_eqs rfl rfl rfl rfl rfl rfl rfl

theorem OnlyEngine.ctrl_eq {h : Handle} {u t : State} (ht : OnlyEngine h u t) : t.ctrl = u.ctrl := by
  obtain ⟨e, rs, rfl⟩ := ht
  rfl

theorem runMicro_kept {h : Handle} {m : Micro} {s t : State} (ht : runMicro h m s = .next t) : Kept s t := by
  obtain ⟨-, honly⟩ | ⟨i, u, -, hu, honly⟩ := runMicro_cases ht
  · exact honly.kept
  · exact (exec_kept hu).trans honly.kept

theorem engineStep_kept {h : Handle} {s t : State} (ht : engineStep h s = .next t) : Kept s t := by
  obtain rfl | ⟨m, -, -, hrun⟩ := engineStep_cases ht
  · exact .refl _
  · exact runMicro_kept hrun

theorem takeTurn_kept {u : Turn} {s t : State} (hu : u ≠ .time) (ht : takeTurn u s = .next t) : Kept s t := by
  cases u with
  | engine k => exact engineStep_kept ht
  | frame k =>
    cases ht
    unfold frameStep
    dsimp only
    split
    · exact ((Kept.afterDraw _).trans (Kept.afterDraw _)).trans (Kept.setCtrl _ _ _)
    · exact .refl _
  | complete k =>
    cases ht
    unfold completeStep
    dsimp only
    split
    · exact .setCtrl _ _ _
    · exact .refl _
  | flushTx k =>
    cases ht
    unfold flushTxStep
    dsimp only
    split
    · exact .setCtrl _ _ _
    · exact .refl _
  | flushRx k =>
    cases ht
    unfold flushRxStep
    dsimp only
    split
    · exact .setCtrl _ _ _
    · exact .refl _
  | time => exact absurd rfl hu
  | host c bytes =>
    obtain rfl | ⟨i, -, hi⟩ | ⟨v, -, rfl⟩ := hostStep_cases ht
    · exact .refuse _ _
    · exact exec_kept hi
    · exact .raiseAs _ _ _
  | master m a =>
    obtain ⟨-, rfl⟩ | ⟨i, -, hi⟩ | ⟨v, -, rfl⟩ := masterStep_cases ht
    · exact .refl _
    · exact exec_kept hi
    · exact .raiseAs _ _ _

theorem step_faults {s t : State} (ht : step s = .next t) :
    (∀ r ∈ s.faults, r ∈ t.faults) ∧ (s.faults.Nodup → t.faults.Nodup) := by
  obtain ⟨-, hturn⟩ := step_cases ht
  by_cases hu : s.turn = .time
  · rw [hu] at hturn
    cases hturn
    simp [timeStep]
  · have hk := takeTurn_kept hu hturn
    exact ⟨fun r hr => hk.faults r (by rwa [State.begin_faults]), fun hn => hk.nodup (by rwa [State.begin_faults])⟩

theorem step_refused {s : State} {r : Refusal} (hr : s.refusal = some r) : step s = .refused r := by
  rw [step, stepOnce, hr]

/-- Settles O51: `step_faults` and `step_refused`. -/
theorem faultsAndRefusalAreNeverCleared : Obligations.FaultsAndRefusalAreNeverCleared :=
  ⟨fun _ _ ht => (step_faults ht).1, fun _ _ hr => step_refused hr⟩

/-- Settles O54: `takeTurn_kept` for every agent but Time. -/
theorem onlyTimeMovesTheCounter : Obligations.OnlyTimeMovesTheCounter := by
  intro s t ht
  obtain ⟨-, hturn⟩ := step_cases ht
  split_ifs with hu
  · rw [hu] at hturn
    cases hturn
    simp [timeStep]
  · have hk := takeTurn_kept hu hturn
    exact ⟨by rw [hk.now, State.begin_now], by rw [hk.cfg, State.begin_cfg], by rw [hk.cntr0, State.begin_tmr]⟩

/-! ## What a turn can do to a controller -/

/-- A step of the controller itself, or none (R143, R147, R149). -/
inductive CtrlOwn (p : Params) (h : Handle) (c : Ctrl) : Ctrl → Prop where
  | same : CtrlOwn p h c c
  | frame (i : FrameInputs) : c.frameEnabled = true → CtrlOwn p h c (c.frame p h i)
  | complete : c.completeEnabled = true → CtrlOwn p h c c.complete
  | endFlushTx : c.flushTx = true → CtrlOwn p h c c.endFlushTx
  | endFlushRx : c.flushRx = true → CtrlOwn p h c c.endFlushRx

/-- A controller that is given another value, seen at any handle. -/
theorem get_set_cases {α : Type} {R : Handle → α → α → Prop} (hrefl : ∀ k a, R k a a) {v : PerHandle α} {h : Handle} {a : α}
    (ha : R h (v.get h) a) (k : Handle) : R k (v.get k) ((v.set h a).get k) := by
  by_cases hk : k = h
  · subst hk
    rwa [PerHandle.get_set_self]
  · rw [PerHandle.get_set_of_ne _ _ hk]
    exact hrefl _ _

theorem exec_ctrl_change {i : Instr} {s t : State} (ht : exec i s = .next t) (k : Handle) :
    CtrlChange s.cfg s.now (s.ctrl.get k) (t.ctrl.get k) := by
  cases hc : accessedCtrl i with
  | some h =>
    obtain ⟨c, hset, hchange⟩ := (exec_access_effect hc ht).ctrl
    rw [hset]
    exact get_set_cases (R := fun _ => CtrlChange s.cfg s.now) (fun _ _ => .same) hchange k
  | none =>
    cases hm : commandEngine i with
    | some h => rw [(exec_command_effect hm ht).ctrl]; exact .same
    | none => rw [(exec_timeBase_effect hc hm ht).ctrl]; exact .same

theorem engineStep_ctrl_change {h : Handle} {s t : State} (ht : engineStep h s = .next t) (k : Handle) :
    CtrlChange s.cfg s.now (s.ctrl.get k) (t.ctrl.get k) := by
  obtain rfl | ⟨m, -, -, hrun⟩ := engineStep_cases ht
  · exact .same
  · obtain ⟨-, honly⟩ | ⟨i, u, -, hu, honly⟩ := runMicro_cases hrun
    · rw [honly.ctrl_eq]; exact .same
    · rw [honly.ctrl_eq]; exact exec_ctrl_change hu k

theorem frameStep_ctrl (h : Handle) (s : State) (k : Handle) :
    CtrlOwn s.cfg k (s.ctrl.get k) ((frameStep h s).ctrl.get k) := by
  unfold frameStep
  dsimp only
  split
  · rename_i he
    simp only [State.setCtrl_ctrl, State.afterDraw_ctrl]
    exact get_set_cases (R := CtrlOwn s.cfg) (fun _ _ => .same) (.frame _ he) k
  · exact .same

theorem completeStep_ctrl (h : Handle) (s : State) (k : Handle) :
    CtrlOwn s.cfg k (s.ctrl.get k) ((completeStep h s).ctrl.get k) := by
  unfold completeStep
  dsimp only
  split
  · rename_i he
    exact get_set_cases (R := CtrlOwn s.cfg) (fun _ _ => .same) (.complete he) k
  · exact .same

theorem flushTxStep_ctrl (h : Handle) (s : State) (k : Handle) :
    CtrlOwn s.cfg k (s.ctrl.get k) ((flushTxStep h s).ctrl.get k) := by
  unfold flushTxStep
  dsimp only
  split
  · rename_i he
    exact get_set_cases (R := CtrlOwn s.cfg) (fun _ _ => .same) (.endFlushTx he) k
  · exact .same

theorem flushRxStep_ctrl (h : Handle) (s : State) (k : Handle) :
    CtrlOwn s.cfg k (s.ctrl.get k) ((flushRxStep h s).ctrl.get k) := by
  unfold flushRxStep
  dsimp only
  split
  · rename_i he
    exact get_set_cases (R := CtrlOwn s.cfg) (fun _ _ => .same) (.endFlushRx he) k
  · exact .same

/-- A controller changes by a step of its own or by an access (R9, R10). -/
theorem takeTurn_ctrl {u : Turn} {s t : State} (ht : takeTurn u s = .next t) (k : Handle) :
    CtrlOwn s.cfg k (s.ctrl.get k) (t.ctrl.get k) ∨ CtrlChange s.cfg s.now (s.ctrl.get k) (t.ctrl.get k) := by
  cases u with
  | engine h => exact .inr (engineStep_ctrl_change ht k)
  | frame h => cases ht; exact .inl (frameStep_ctrl h s k)
  | complete h => cases ht; exact .inl (completeStep_ctrl h s k)
  | flushTx h => cases ht; exact .inl (flushTxStep_ctrl h s k)
  | flushRx h => cases ht; exact .inl (flushRxStep_ctrl h s k)
  | time => cases ht; exact .inl .same
  | host c bytes =>
    obtain rfl | ⟨i, -, hi⟩ | ⟨v, -, rfl⟩ := hostStep_cases ht
    · exact .inl .same
    · exact .inr (exec_ctrl_change hi k)
    · exact .inl (by rw [State.raiseAs_ctrl]; exact .same)
  | master m a =>
    obtain ⟨-, rfl⟩ | ⟨i, -, hi⟩ | ⟨v, -, rfl⟩ := masterStep_cases ht
    · exact .inl .same
    · exact .inr (exec_ctrl_change hi k)
    · exact .inl (by rw [State.raise_ctrl]; exact .same)

theorem step_ctrl {s t : State} (ht : step s = .next t) (k : Handle) :
    CtrlOwn s.cfg k (s.ctrl.get k) (t.ctrl.get k) ∨ CtrlChange s.cfg s.now (s.ctrl.get k) (t.ctrl.get k) := by
  simpa using takeTurn_ctrl (step_cases ht).2 k

theorem CtrlChange.wire_eq {p : Params} {now : Nat} {c d : Ctrl} (hc : CtrlChange p now c d) : d.wire = c.wire := by
  cases hc <;> simp

theorem CtrlOwn.wire_append {p : Params} {h : Handle} {c d : Ctrl} (hc : CtrlOwn p h c d) :
    ∃ fs, d.wire = c.wire ++ fs := by
  cases hc with
  | frame i => exact ⟨_, Ctrl.frame_wire _ _ _ _⟩
  | same => exact ⟨[], (List.append_nil _).symm⟩
  | complete => exact ⟨[], (List.append_nil _).symm⟩
  | endFlushTx => exact ⟨[], (List.append_nil _).symm⟩
  | endFlushRx => exact ⟨[], (List.append_nil _).symm⟩

/-- Settles O52: only a frame touches the wire. -/
theorem wireHistoryOnlyGrows : Obligations.WireHistoryOnlyGrows := by
  intro s t h ht
  obtain hown | hchange := step_ctrl ht h
  · exact hown.wire_append
  · exact ⟨[], by rw [hchange.wire_eq, List.append_nil]⟩

/-! ## What acts on one controller or engine leaves the other three alone -/

/-- `t` has the controllers and engines of `s`, but perhaps those of `h`. -/
def OnlyInstance (h : Handle) (s t : State) : Prop :=
  ∀ k, k ≠ h → t.ctrl.get k = s.ctrl.get k ∧ t.eng.get k = s.eng.get k

theorem AccessEffect.onlyInstance {h : Handle} {s t : State} (ha : AccessEffect h s t) : OnlyInstance h s t := by
  obtain ⟨c, hset, -⟩ := ha.ctrl
  exact fun k hk => ⟨by rw [hset, PerHandle.get_set_of_ne _ _ hk], by rw [ha.eng]⟩

theorem CommandEffect.onlyInstance {h : Handle} {s t : State} (hc : CommandEffect h s t) : OnlyInstance h s t := by
  refine fun k hk => ⟨by rw [hc.ctrl], ?_⟩
  obtain heng | ⟨-, op, n, b, heng, -, -⟩ := hc.eng
  · rw [heng]
  · rw [heng, PerHandle.get_set_of_ne _ _ hk]

theorem engineStep_onlyInstance {h : Handle} {s t : State} (ht : engineStep h s = .next t) : OnlyInstance h s t := by
  obtain rfl | ⟨m, -, -, hrun⟩ := engineStep_cases ht
  · exact fun _ _ => ⟨rfl, rfl⟩
  · obtain ⟨-, honly⟩ | ⟨i, u, hi, hu, honly⟩ := runMicro_cases hrun
    · exact fun k hk => ⟨by rw [honly.ctrl_eq], honly.get_of_ne hk⟩
    · intro k hk
      rw [honly.ctrl_eq, honly.get_of_ne hk]
      obtain hown | rfl := microAccess_own hi
      · exact (exec_access_effect hown hu).onlyInstance k hk
      · cases hu
        exact ⟨rfl, rfl⟩

theorem frameStep_ctrl_of_ne {h k : Handle} (s : State) (hk : k ≠ h) :
    (frameStep h s).ctrl.get k = s.ctrl.get k := by
  unfold frameStep
  dsimp only
  split <;> simp [PerHandle.get_set_of_ne _ _ hk]

theorem completeStep_ctrl_of_ne {h k : Handle} (s : State) (hk : k ≠ h) :
    (completeStep h s).ctrl.get k = s.ctrl.get k := by
  unfold completeStep
  dsimp only
  split <;> simp [PerHandle.get_set_of_ne _ _ hk]

theorem flushTxStep_ctrl_of_ne {h k : Handle} (s : State) (hk : k ≠ h) :
    (flushTxStep h s).ctrl.get k = s.ctrl.get k := by
  unfold flushTxStep
  dsimp only
  split <;> simp [PerHandle.get_set_of_ne _ _ hk]

theorem flushRxStep_ctrl_of_ne {h k : Handle} (s : State) (hk : k ≠ h) :
    (flushRxStep h s).ctrl.get k = s.ctrl.get k := by
  unfold flushRxStep
  dsimp only
  split <;> simp [PerHandle.get_set_of_ne _ _ hk]

/-- Settles O53: accesses, commands, the turn of an engine and the four turns of a controller. -/
theorem instancesShareNoState : Obligations.InstancesShareNoState := by
  intro s t h k hk
  refine ⟨fun i ht hi => ?_, fun u hu ht => ?_⟩
  · obtain hi | rfl | rfl | ⟨len, bytes, rfl⟩ | ⟨len, rfl⟩ := hi
    · exact (exec_access_effect hi ht).onlyInstance k hk
    all_goals exact (exec_command_effect rfl ht).onlyInstance k hk
  · simp only [List.mem_cons, List.not_mem_nil, or_false] at hu
    obtain rfl | rfl | rfl | rfl | rfl := hu
    · exact engineStep_onlyInstance ht k hk
    · cases ht; exact ⟨frameStep_ctrl_of_ne s hk, by rw [frameStep_eng]⟩
    · cases ht; exact ⟨completeStep_ctrl_of_ne s hk, by rw [completeStep_eng]⟩
    · cases ht; exact ⟨flushTxStep_ctrl_of_ne s hk, by rw [flushTxStep_eng]⟩
    · cases ht; exact ⟨flushRxStep_ctrl_of_ne s hk, by rw [flushRxStep_eng]⟩

/-! ## The turns that issue an instruction, and the turns of halted agents -/

/-- A decoded command is the host's turn: the check for a busy engine is made either way (R170). -/
theorem hostStep_of_decoded {c : Word} {bytes : List Byte} {i : Instr} (s : State) (hi : decodeCmd c bytes = .ok i) :
    hostStep c bytes s = exec i s := by
  unfold hostStep
  dsimp only
  split
  · rename_i hb
    exact (exec_command_busy (decodeCmd_engine hi) hb).symm
  · rw [hi]

/-- Settles O49: the decoded turn of a master that is not halted, and of the host. -/
theorem stepRunsTheIssuedInstruction : Obligations.StepRunsTheIssuedInstruction := by
  intro s ts i hr
  refine ⟨fun m a ha hi hh => ?_, fun c bytes ha hi => ?_⟩
  · have hh' : ({ s with agenda := ts, actor := .master m } : State).halted (.master m) = false := hh
    rw [step_of_agenda hr ha]
    simp only [takeTurn, masterStep, turnAgent, hh', hi, Bool.false_eq_true, if_false]
  · rw [step_of_agenda hr ha]
    exact hostStep_of_decoded _ hi

/-- Settles O50: a halted engine is not enabled, and a halted master issues nothing. -/
theorem faultedAgentTakesNoStep : Obligations.FaultedAgentTakesNoStep := by
  intro s ts hr
  refine ⟨fun h ha hh => ?_, fun m a ha hh => ?_⟩
  · have hen : ({ s with agenda := ts, actor := .engine h } : State).engineEnabled h = false := by
      have hh' : ({ s with agenda := ts, actor := .engine h } : State).halted (.engine h) = true := hh
      rw [State.engineEnabled, hh', Bool.not_true, Bool.and_false]
    rw [step_of_agenda hr ha]
    simp only [takeTurn, engineStep, turnAgent, hen, Bool.false_eq_true, if_false]
  · have hh' : ({ s with agenda := ts, actor := .master m } : State).halted (.master m) = true := hh
    rw [step_of_agenda hr ha]
    simp only [takeTurn, masterStep, turnAgent, hh', if_true]

end Sys2Proof.Machine
end

section
/-! The invariant of a controller (10_state R29 to R38; 41_controller_operation R140 to R149): accesses and own steps keep it. -/

namespace Sys2Proof.Machine

open Sys2Proof.Config (Params)

section CtrlOk

variable {p : Params} {h : Handle} {now : Nat} {c : Ctrl}

theorem Ctrl.Ok.touch (hok : c.Ok p h now) : (c.touch now).Ok p h now :=
  { hok with lastw := fun t ht => by cases ht; exact Nat.le_refl _ }

theorem Ctrl.Ok.setCommand1 (hok : c.Ok p h now) (d : Word) (hb : c.busy = false) : (c.setCommand1 p d).Ok p h now :=
  { hok with
    command1 := by simp [storeCommand1, BitVec.and_assoc]
    latched := fun hbusy => absurd hbusy (by simp [hb])
    admitted := fun hbusy => absurd hbusy (by simp [hb]) }

theorem Ctrl.Ok.start (hok : c.Ok p h now) (hft : c.flushTx = false) (hfr : c.flushRx = false)
    (hc : checkConfig p c.command1 = none) : (c.start p now).Ok p h now :=
  { hok with
    noFlush := fun _ => ⟨hft, hfr⟩
    idle := fun hb => absurd hb (by simp)
    frames := Nat.le_refl _
    latched := fun _ => rfl
    admitted := fun _ => hc
    trig := fun _ => Nat.le_refl _ }

theorem Ctrl.Ok.setBlkSize (hok : c.Ok p h now) (d : Word) (hb : c.busy = false) : (c.setBlkSize p d).Ok p h now :=
  { hok with
    blkSize := by simp [storeBlkSize, BitVec.and_assoc]
    frames := by simp [hok.idle hb] }

/-- A flush is started only on an idle controller (R106, R115). -/
theorem Ctrl.Ok.startFlush (hok : c.Ok p h now) (d : Word) (hb : (asksFlush p d && c.busy) = false) :
    (c.startFlush p d).Ok p h now :=
  { hok with
    noFlush := fun hbusy => by
      have hbusy' : c.busy = true := hbusy
      obtain ⟨hft, hfr⟩ := hok.noFlush hbusy
      rw [hbusy', Bool.and_true, asksFlush, Bool.or_eq_false_iff] at hb
      simp [hft, hfr, hb] }

theorem Ctrl.Ok.pushTx (hok : c.Ok p h now) (d : Word) : (c.pushTx p d).Ok p h now := by
  unfold Ctrl.pushTx
  split
  · exact { hok with txq := by rw [List.length_append, List.length_singleton]; omega }
  · exact { hok with }

theorem Ctrl.Ok.popRx (hok : c.Ok p h now) : c.popRx.Ok p h now := by
  unfold Ctrl.popRx
  split
  · rename_i q hq
    exact { hok with rxq := by have := hok.rxq; rw [hq, List.length_cons] at this; exact Nat.le_of_succ_le this }
  · exact { hok with }

theorem Ctrl.Ok.clearErrors (hok : c.Ok p h now) (d : Word) : (c.clearErrors p d).Ok p h now := { hok with }

/-- What an access does to a controller keeps its invariant. -/
theorem Ctrl.Ok.change {d : Ctrl} (hok : c.Ok p h now) (hc : CtrlChange p now c d) : d.Ok p h now := by
  cases hc with
  | same => exact hok
  | closeStale => exact { hok with trig := fun hs => hok.trig (Bool.and_eq_true_iff.1 hs).1 }
  | store w hb => exact hok.setCommand1 w hb
  | configure w hb hw => exact (hok.setCommand1 w hb).touch
  | start w hb hw hft hfr hconfig => exact ((hok.setCommand1 w hb).start hft hfr hconfig).touch
  | clearRdy w => exact Ctrl.Ok.touch { hok with }
  | fifoStatus w hb => exact ((hok.clearErrors w).startFlush w hb).touch
  | blkSize w hb => exact (hok.setBlkSize w hb).touch
  | pushTx w hf => exact hok.touch.pushTx w
  | popRx hf => exact hok.popRx

theorem Ctrl.Ok.frame (hok : c.Ok p h now) (i : FrameInputs) (he : c.frameEnabled = true) : (c.frame p h i).Ok p h now where
  command1 := by simpa using hok.command1
  blkSize := by simpa using hok.blkSize
  txq := by
    have := hok.txq
    rw [Ctrl.frame_txq]
    split
    · rw [List.length_tail]; omega
    · exact this
  rxq := by
    rw [Ctrl.frame_rxq]
    split
    · rw [List.length_append, List.length_singleton]; omega
    · exact hok.rxq
  noFlush := by simpa using hok.noFlush
  idle := fun hb => by
    rw [Ctrl.frame_busy] at hb
    simp [Ctrl.frameEnabled, hb] at he
  frames := by
    have := hok.frames
    rw [Ctrl.frame_framesLeft, Ctrl.frame_blkSize]
    omega
  latched := by simpa using hok.latched
  admitted := by simpa using hok.admitted
  lastw := by simpa using hok.lastw
  trig := by simpa using hok.trig
  wire := fun f hf => by
    rw [Ctrl.frame_wire, List.mem_append, List.mem_singleton] at hf
    obtain hf | rfl := hf
    · exact hok.wire f hf
    · rfl

/-- A step of the controller itself keeps its invariant. -/
theorem Ctrl.Ok.own {d : Ctrl} (hok : c.Ok p h now) (hc : CtrlOwn p h c d) : d.Ok p h now := by
  cases hc with
  | same => exact hok
  | frame i he => exact hok.frame i he
  | complete he =>
    simp only [Ctrl.completeEnabled, Bool.and_eq_true, beq_iff_eq] at he
    exact { hok with
      noFlush := fun hb => absurd hb (by simp)
      idle := fun _ => he.2
      latched := fun hb => absurd hb (by simp)
      admitted := fun hb => absurd hb (by simp) }
  | endFlushTx hf => exact { hok with txq := Nat.zero_le _, noFlush := fun hb => ⟨rfl, (hok.noFlush hb).2⟩ }
  | endFlushRx hf => exact { hok with rxq := Nat.zero_le _, noFlush := fun hb => ⟨(hok.noFlush hb).1, rfl⟩ }

theorem Ctrl.Ok.later (hok : c.Ok p h now) : c.Ok p h (now + 1) :=
  { hok with
    lastw := fun t ht => Nat.le_succ_of_le (hok.lastw t ht)
    trig := fun hs => Nat.le_succ_of_le (hok.trig hs) }

end CtrlOk

end Sys2Proof.Machine
end

section
/-! The invariant of an engine (42_polling_engine R170, R177 to R183): where a step list can lead. -/

namespace Sys2Proof.Machine

open Sys2Proof.Config (Params Turn)

/-! ## The step lists (R177, R178, R180, R182) -/

/-- The steps after which the next one of the list may come; the others end the command or drain. -/
def Micro.advances : Micro → Bool
  | .clearErrAndFail => false
  | .drain => false
  | .finishInit => false
  | .finishOk => false
  | .finishData => false
  | _ => true

/-- What a step list says of the step at `pc`. -/
structure StepFacts (p : Params) (e : Engine) (m : Micro) : Prop where
  first : 1 ≤ e.pc
  last : e.pc ≤ (e.steps p).length
  advances : m.advances = true → e.pc + 1 ≤ (e.steps p).length ∧ (e.op = .receive → e.pc + 1 ≤ 21)
  toDrain : ∀ d, m = .checkErrDrain d → e.op = .receive ∧ d = 22
  drain : m = .drain → e.op = .receive ∧ e.pc = 22

/-- The four lists are written out, so each position of each list is looked at. -/
theorem Engine.stepFacts {p : Params} {e : Engine} {m : Micro} (hm : e.micro? p = some m) : StepFacts p e m := by
  obtain ⟨n, hpc⟩ : ∃ n, e.pc = n + 1 := by
    cases hpc : e.pc with
    | zero => simp [Engine.micro?, hpc] at hm
    | succ n => exact ⟨n, rfl⟩
  simp only [Engine.micro?, hpc] at hm
  obtain ⟨hlt, rfl⟩ := List.getElem?_eq_some_iff.1 hm
  refine ⟨by omega, by omega, hpc ▸ ?_, ?_, hpc ▸ ?_⟩
  all_goals
    clear hpc hm
    revert hlt
    cases hop : e.op
  all_goals
    simp only [Engine.steps, hop, initSteps, flushFifosSteps, sendSteps, receiveSteps, prepareSteps, triggerSteps, flushSteps,
      List.cons_append, List.nil_append, List.length_cons, List.length_nil]
    intro hlt
    interval_cases n
  all_goals simp [Micro.advances]

/-! ## What a step does to the engine's locals (R24, R174 to R183) -/

/-- The locals of an engine after its step `m`. -/
inductive EngineMove (e : Engine) (m : Micro) : Engine → Prop where
  /-- A failed access, a poll whose condition does not hold, a delay not over. -/
  | stay (v : Word) : EngineMove e m { e with scratch := v }
  | advance (v t : Word) : m.advances = true → EngineMove e m { e with scratch := v, t0 := t, pc := e.pc + 1 }
  | finish (v : Word) (b : Bool) (r : Option Result) :
      EngineMove e m { e with scratch := v, initialized := b, busyCmd := false, result := r }
  | toDrain (v : Word) (d : Nat) : m = .checkErrDrain d → EngineMove e m { e with scratch := v, k := 0, out := [], pc := d }
  | drainMore (b : Byte) : m = .drain → e.k + 1 < e.len → EngineMove e m { e with out := e.out ++ [b], k := e.k + 1 }
  | drainLast (b : Byte) : m = .drain → ¬ e.k + 1 < e.len →
      EngineMove e m { e with out := e.out ++ [b], k := e.k + 1, pc := e.pc + 1 }

theorem EngineMove.refl (e : Engine) (m : Micro) : EngineMove e m e := .stay e.scratch

theorem runMicro_move {h : Handle} {m : Micro} {s t : State} (hb : (s.eng.get h).busyCmd = true)
    (ht : runMicro h m s = .next t) : EngineMove (s.eng.get h) m (t.eng.get h) := by
  have access : ∀ {i after}, engineAccess h i s after = .next t →
      (∀ u : State, u.eng.get h = s.eng.get h → EngineMove (s.eng.get h) m ((after u).eng.get h)) →
      EngineMove (s.eng.get h) m (t.eng.get h) := by
    intro i after hacc hafter
    obtain ⟨u, hu, ⟨rfl, -⟩ | ⟨-, -, rfl⟩⟩ := engineAccess_cases hacc
    · rw [exec_keeps_running hb hu]
      exact .refl _ _
    · exact hafter u (exec_keeps_running hb hu)
  cases m with
  | readCommand1 | writeCommand1 | writeTransStatus | writeFifoStatus | writeBlkSize | writeTxFifo | dummyRead =>
    exact access ht fun u he => by simp [State.advance, he]; exact .advance _ _ rfl
  | delayStart => exact access (i := .rdTmrCntr1us) ht fun u he => by simp [State.advance, he]; exact .advance _ _ rfl
  | pollTransStatus | pollFifoStatus =>
    refine access ht fun u he => ?_
    rw [State.pollNext, he, State.setEng_eng, PerHandle.get_set_self]
    split
    · exact .advance _ _ rfl
    · exact .stay _
  | delayWait n =>
    refine access (i := .rdTmrCntr1us) ht fun u he => ?_
    rw [State.delayNext, he]
    split
    · rw [he]; exact .refl _ _
    · rw [State.setEng_eng, PerHandle.get_set_self]; exact .advance _ _ rfl
  | checkErrReturn =>
    refine access ht fun u he => ?_
    rw [State.errNext, he]
    dsimp only
    split
    · simp [State.finish, State.hand]; exact .finish _ _ _
    · simp [State.advance]; exact .advance _ _ rfl
  | checkErrDrain d =>
    refine access ht fun u he => ?_
    rw [State.errDrainNext, he]
    dsimp only
    split
    · rw [State.setEng_eng, PerHandle.get_set_self]; exact .toDrain _ _ rfl
    · rw [State.setEng_eng, PerHandle.get_set_self]; exact .advance _ _ rfl
  | clearErrAndFail => exact access ht fun u he => by simp [State.finish, State.hand, he]; exact .finish _ _ _
  | drain =>
    refine access ht fun u he => ?_
    rw [State.drainNext, he, State.setEng_eng, PerHandle.get_set_self]
    split
    · rename_i hk; exact .drainMore _ rfl hk
    · rename_i hk; exact .drainLast _ rfl hk
  | finishInit | finishOk | finishData => cases ht; simp [State.finish, State.hand]; exact .finish _ _ _

/-- A step of the list keeps the invariant of the engine. -/
theorem Engine.Ok.move {p : Params} {e e' : Engine} {m : Micro} (hok : e.Ok p) (hb : e.busyCmd = true)
    (hm : e.micro? p = some m) (hmove : EngineMove e m e') : e'.Ok p := by
  obtain ⟨hfirst, hlast, hadvances, htoDrain, hdrain⟩ := Engine.stepFacts hm
  cases hmove with
  | stay v => exact { hok with }
  | advance v t ha =>
    obtain ⟨hlen, hrec⟩ := hadvances ha
    exact { hok with
      pc := fun _ => ⟨Nat.le_add_left _ _, hlen⟩
      drain := fun _ hop hpc => by have := hrec hop; dsimp only at hpc; omega
      drained := fun _ hop hpc => by have := hrec hop; dsimp only at hpc; omega }
  | finish v b r => constructor <;> intro hbusy <;> cases hbusy
  | toDrain v d hd =>
    obtain ⟨hop, rfl⟩ := htoDrain d hd
    have hlen := hok.len hb hop
    have hsteps : (e.steps p).length = 23 := by rw [Engine.steps, hop]; rfl
    exact { hok with
      pc := fun _ => ⟨Nat.le_add_left 1 21, (Nat.le_succ 22).trans hsteps.ge⟩
      drain := fun _ _ _ => ⟨rfl, hlen.1⟩
      drained := fun _ _ hpc => by cases hpc }
  | drainMore b hd hk =>
    obtain ⟨hop, hpc⟩ := hdrain hd
    have hout := (hok.drain hb hop hpc).1
    exact { hok with
      drain := fun _ _ _ => ⟨by simp [hout], hk⟩
      drained := fun _ _ h23 => by dsimp only at h23; omega }
  | drainLast b hd hk =>
    obtain ⟨hop, hpc⟩ := hdrain hd
    obtain ⟨hout, hlt⟩ := hok.drain hb hop hpc
    have hsteps : (e.steps p).length = 23 := by rw [Engine.steps, hop]; rfl
    exact { hok with
      pc := fun _ => ⟨Nat.le_add_left _ _, by dsimp only; rw [hpc]; exact hsteps.ge⟩
      drain := fun _ _ h22 => by dsimp only at h22; omega
      drained := fun _ _ _ => by simp [hout]; omega }

theorem State.busyCmd_of_engineEnabled {h : Handle} {s : State} (hen : s.engineEnabled h = true) :
    (s.eng.get h).busyCmd = true := (Bool.and_eq_true_iff.1 hen).1

/-! ## Commands -/

/-- An idle engine after an accepted command (R170). -/
def Engine.Accepted (p : Params) (e e' : Engine) : Prop :=
  ∃ op n b, e' = { e with busyCmd := true, op := op, pc := 1, len := n, txbuf := b } ∧
    (op = .send ∨ op = .receive → e.initialized = true) ∧ (op = .receive → 1 ≤ n ∧ n ≤ p.fifoDepth)

theorem Engine.Accepted.ok {p : Params} {e e' : Engine} (ha : Engine.Accepted p e e') : e'.Ok p := by
  obtain ⟨op, n, b, rfl, hinit, hlen⟩ := ha
  exact {
    pc := fun _ => ⟨Nat.le_refl 1, by cases op <;> exact Nat.le_add_left 1 _⟩
    initialized := fun _ => hinit
    len := fun _ => hlen
    drain := fun _ _ hpc => by cases hpc
    drained := fun _ _ hpc => by cases hpc }

/-- An instruction leaves an engine as it is, or is a command it accepts. -/
theorem exec_eng {i : Instr} {s t : State} (ht : exec i s = .next t) (k : Handle) :
    t.eng.get k = s.eng.get k ∨ (s.eng.get k).busyCmd = false ∧ Engine.Accepted s.cfg (s.eng.get k) (t.eng.get k) := by
  cases hc : accessedCtrl i with
  | some h => rw [(exec_access_effect hc ht).eng]; exact .inl rfl
  | none =>
    cases hm : commandEngine i with
    | none => rw [(exec_timeBase_effect hc hm ht).eng]; exact .inl rfl
    | some h =>
      obtain heng | ⟨hidle, op, n, b, heng, hinit, hlen⟩ := (exec_command_effect hm ht).eng
      · rw [heng]; exact .inl rfl
      · rw [heng]
        exact get_set_cases (R := fun _ e e' => e' = e ∨ e.busyCmd = false ∧ Engine.Accepted s.cfg e e')
          (fun _ _ => .inl rfl) (.inr ⟨hidle, op, n, b, rfl, hinit, hlen⟩) k

/-- The turn is that of engine `k`, which takes the step its `pc` names. -/
def TakesMicro (k : Handle) (u : Turn) (s t : State) : Prop :=
  u = .engine k ∧ ∃ m, s.engineEnabled k = true ∧ (s.eng.get k).micro? s.cfg = some m ∧ runMicro k m s = .next t

/-- A turn leaves an engine as it is, is the engine's own step, or is a command it accepts. -/
theorem takeTurn_eng {u : Turn} {s t : State} (ht : takeTurn u s = .next t) (k : Handle) :
    t.eng.get k = s.eng.get k ∨ TakesMicro k u s t ∨
    (s.eng.get k).busyCmd = false ∧ Engine.Accepted s.cfg (s.eng.get k) (t.eng.get k) := by
  have ofExec {i : Instr} (hi : exec i s = .next t) := (exec_eng hi k).imp_right (Or.inr (a := TakesMicro k u s t))
  cases u with
  | engine h =>
    by_cases hk : k = h
    · subst hk
      obtain rfl | ⟨m, hen, hm, hrun⟩ := engineStep_cases ht
      · exact .inl rfl
      · exact .inr (.inl ⟨rfl, m, hen, hm, hrun⟩)
    · exact .inl (engineStep_onlyInstance ht k hk).2
  | frame h => cases ht; exact .inl (by rw [frameStep_eng])
  | complete h => cases ht; exact .inl (by rw [completeStep_eng])
  | flushTx h => cases ht; exact .inl (by rw [flushTxStep_eng])
  | flushRx h => cases ht; exact .inl (by rw [flushRxStep_eng])
  | time => cases ht; exact .inl rfl
  | host c bytes =>
    obtain rfl | ⟨i, -, hi⟩ | ⟨v, -, rfl⟩ := hostStep_cases ht
    · exact .inl rfl
    · exact ofExec hi
    · exact .inl (by rw [State.raiseAs_eng])
  | master m a =>
    obtain ⟨-, rfl⟩ | ⟨i, -, hi⟩ | ⟨v, -, rfl⟩ := masterStep_cases ht
    · exact .inl rfl
    · exact ofExec hi
    · exact .inl (by rw [State.raise_eng])

theorem takeTurn_engine_ok {u : Turn} {s t : State} (ht : takeTurn u s = .next t) {k : Handle}
    (hok : (s.eng.get k).Ok s.cfg) : (t.eng.get k).Ok s.cfg := by
  obtain heq | ⟨rfl, m, hen, hm, hrun⟩ | ⟨-, hacc⟩ := takeTurn_eng ht k
  · rwa [heq]
  · have hb : (s.eng.get k).busyCmd = true := State.busyCmd_of_engineEnabled hen
    exact hok.move hb hm (runMicro_move hb hrun)
  · exact hacc.ok

end Sys2Proof.Machine
end

section
/-! The invariant of the machine (10_state R25 to R45): kept by every step, and met after reset. -/

namespace Sys2Proof.Machine

open Sys2Proof.Config (Params Turn)

/-! ## The Time Base (R223) -/

/-- The Time Base of `t` is configured when that of `s` is. -/
def StaysConfigured (s t : State) : Prop := s.tmr.usecCfg = usecCfgOf s.cfg → t.tmr.usecCfg = usecCfgOf s.cfg

theorem StaysConfigured.of_eq {s t : State} (ht : t.tmr = s.tmr) : StaysConfigured s t := fun hu => by rw [ht]; exact hu

theorem exec_staysConfigured {i : Instr} {s t : State} (ht : exec i s = .next t) : StaysConfigured s t := by
  cases hc : accessedCtrl i with
  | some h => exact .of_eq (exec_access_effect hc ht).tmr
  | none =>
    cases hm : commandEngine i with
    | some h => exact .of_eq (exec_command_effect hm ht).tmr
    | none => exact (exec_timeBase_effect hc hm ht).usecCfg

theorem OnlyEngine.tmr_eq {h : Handle} {u t : State} (ht : OnlyEngine h u t) : t.tmr = u.tmr := by
  obtain ⟨e, rs, rfl⟩ := ht
  rfl

theorem engineStep_staysConfigured {h : Handle} {s t : State} (ht : engineStep h s = .next t) : StaysConfigured s t := by
  obtain rfl | ⟨m, -, -, hrun⟩ := engineStep_cases ht
  · exact .of_eq rfl
  · obtain ⟨-, honly⟩ | ⟨i, u, -, hu, honly⟩ := runMicro_cases hrun
    · exact .of_eq honly.tmr_eq
    · intro hcfg
      rw [honly.tmr_eq]
      exact exec_staysConfigured hu hcfg

theorem takeTurn_staysConfigured {u : Turn} {s t : State} (ht : takeTurn u s = .next t) : StaysConfigured s t := by
  cases u with
  | engine h => exact engineStep_staysConfigured ht
  | frame h => cases ht; unfold frameStep; dsimp only; split <;> exact .of_eq (by simp)
  | complete h => cases ht; unfold completeStep; dsimp only; split <;> exact .of_eq rfl
  | flushTx h => cases ht; unfold flushTxStep; dsimp only; split <;> exact .of_eq rfl
  | flushRx h => cases ht; unfold flushRxStep; dsimp only; split <;> exact .of_eq rfl
  | time => cases ht; exact .of_eq rfl
  | host c bytes =>
    obtain rfl | ⟨i, -, hi⟩ | ⟨v, -, rfl⟩ := hostStep_cases ht
    · exact .of_eq rfl
    · exact exec_staysConfigured hi
    · exact .of_eq (by simp)
  | master m a =>
    obtain ⟨-, rfl⟩ | ⟨i, -, hi⟩ | ⟨v, -, rfl⟩ := masterStep_cases ht
    · exact .of_eq rfl
    · exact exec_staysConfigured hi
    · exact .of_eq (by simp)

/-! ## The whole state -/

/-- An access or own step does not see the time pass: only the Time agent moves it (R225). -/
theorem step_now_le {s t : State} (ht : step s = .next t) : t.now = s.now ∨ t.now = s.now + 1 := by
  have h := (onlyTimeMovesTheCounter s t ht).1
  split_ifs at h
  · exact .inr h
  · exact .inl h

theorem step_cfg {s t : State} (ht : step s = .next t) : t.cfg = s.cfg := (onlyTimeMovesTheCounter s t ht).2.1

theorem step_ctrl_ok {s t : State} (ht : step s = .next t) {h : Handle} (hok : (s.ctrl.get h).Ok s.cfg h s.now) :
    (t.ctrl.get h).Ok t.cfg h t.now := by
  rw [step_cfg ht]
  have hnow : (t.ctrl.get h).Ok s.cfg h s.now := (step_ctrl ht h).elim hok.own hok.change
  obtain hn | hn := step_now_le ht
  · rwa [hn]
  · rw [hn]; exact hnow.later

/-- Settles O55: part by part, `step_ctrl_ok`, `takeTurn_engine_ok`, `takeTurn_staysConfigured` and `step_faults`. -/
theorem everyStepKeepsTheInvariant : Obligations.EveryStepKeepsTheInvariant := by
  intro s t hok ht
  have hturn := (step_cases ht).2
  exact {
    ctrl := fun h => step_ctrl_ok ht (hok.ctrl h)
    eng := fun h => by
      have := takeTurn_engine_ok (k := h) hturn (by simpa using hok.eng h)
      rwa [step_cfg ht, ← State.begin_cfg s]
    usecCfg := by
      have := takeTurn_staysConfigured hturn (by simpa using hok.usecCfg)
      rwa [step_cfg ht, ← State.begin_cfg s]
    faults := (step_faults ht).2 hok.faults }

/-! ## Reset (R45) -/

section Reset

variable (p : Params) (d : ResetDraws) (h : Handle)

theorem State.resetOf_ctrl : (State.resetOf p d).ctrl.get h = .reset (d.ctrl.get h) := by cases h <;> rfl

theorem State.resetOf_eng : (State.resetOf p d).eng.get h = .reset (d.eng.get h) := by cases h <;> rfl

end Reset

theorem Ctrl.reset_ok {p : Params} {d : CtrlDraws} (hd : d.Admitted p) (h : Handle) (now : Nat) : (Ctrl.reset d).Ok p h now where
  command1 := hd.command1
  blkSize := hd.blkSize
  txq := hd.txq
  rxq := hd.rxq
  noFlush := fun hb => by cases hb
  idle := fun _ => rfl
  frames := Nat.zero_le _
  latched := fun hb => by cases hb
  admitted := fun hb => by cases hb
  lastw := fun t ht => by cases ht
  trig := fun hs => by cases hs
  wire := fun f hf => by cases hf

theorem Engine.reset_ok (p : Params) (d : EngineDraws) : (Engine.reset d).Ok p := by
  constructor <;> intro hb <;> cases hb

/-- Settles O56: `Ctrl.reset_ok` and `Engine.reset_ok` for each handle. -/
theorem resetMeetsTheInvariant : Obligations.ResetMeetsTheInvariant := fun p d hd => {
  ctrl := fun h => by rw [State.resetOf_ctrl]; exact Ctrl.reset_ok (hd h) h _
  eng := fun h => by rw [State.resetOf_eng]; exact Engine.reset_ok p _
  usecCfg := rfl
  faults := List.nodup_nil }

/-- Settles O57: read off `Ctrl.reset` and `Engine.reset`. -/
theorem resetLeavesEveryControllerIdle : Obligations.ResetLeavesEveryControllerIdle := by
  intro p d h
  dsimp only
  rw [State.resetOf_ctrl, State.resetOf_eng]
  exact ⟨rfl, rfl, rfl, rfl, rfl, rfl, rfl, rfl, rfl, rfl, rfl, rfl, rfl⟩

end Sys2Proof.Machine
end

section
/-! Liveness (41_controller_operation R152; 60_exceptions R225): weak fairness makes the pending step of a controller, or of Time,
happen, because no other step disables it. -/

namespace Sys2Proof.Machine

open Sys2Proof.Config (Params Turn)

section Runs

variable {τ : Nat → Turn} {σ : Nat → State}

theorem Driven.takeTurn (hd : Driven τ σ) (n : Nat) :
    takeTurn (τ n) { σ n with agenda := [], actor := turnAgent (τ n) } = .next (σ (n + 1)) := by
  have hr : (σ n).refusal = none := (step_cases (hd n)).1
  rw [← hd n]
  exact (step_of_agenda (s := { σ n with agenda := [τ n] }) hr rfl).symm

theorem Driven.step_ctrl (hd : Driven τ σ) (n : Nat) (h : Handle) :
    CtrlOwn (σ n).cfg h ((σ n).ctrl.get h) ((σ (n + 1)).ctrl.get h) ∨
    CtrlChange (σ n).cfg (σ n).now ((σ n).ctrl.get h) ((σ (n + 1)).ctrl.get h) :=
  Sys2Proof.Machine.step_ctrl (hd n) h

/-! ## Time (R225) -/

theorem Driven.now_mono (hd : Driven τ σ) : Monotone fun n => (σ n).now := by
  refine monotone_nat_of_le_succ fun n => ?_
  have := step_now_le (hd n)
  dsimp only at this
  omega

theorem Driven.now_time (hd : Driven τ σ) {n : Nat} (hn : τ n = .time) : (σ (n + 1)).now = (σ n).now + 1 := by
  have ht := hd.takeTurn n
  rw [hn] at ht
  rw [← Host.Outcome.next.inj ht]
  rfl

/-- Settles O60: by induction on the bound, fairness gives the next microsecond. -/
theorem timeGrowsWithoutBound : Obligations.TimeGrowsWithoutBound := by
  intro τ σ hd hfair b
  induction b with
  | zero => exact ⟨0, Nat.zero_le _⟩
  | succ b ih =>
    obtain ⟨n, hn⟩ := ih
    obtain ⟨m, hnm, hm⟩ := hfair n fun _ _ => rfl
    have hmono : (σ n).now ≤ (σ m).now := hd.now_mono hnm
    exact ⟨m + 1, by rw [hd.now_time hm]; omega⟩

/-! ## Transfers -/

theorem CtrlChange.framesLeft_of_busy {p : Params} {now : Nat} {c d : Ctrl} (hc : CtrlChange p now c d) (hb : c.busy = true) :
    d.framesLeft = c.framesLeft := by
  cases hc with
  | start w hidle => rw [hb] at hidle; cases hidle
  | _ => simp

theorem CtrlOwn.framesLeft_le {p : Params} {h : Handle} {c d : Ctrl} (hc : CtrlOwn p h c d) : d.framesLeft ≤ c.framesLeft := by
  cases hc with
  | frame => rw [Ctrl.frame_framesLeft]; exact Nat.sub_le _ _
  | _ => exact Nat.le_refl _

section Transfer

variable {h : Handle} {n : Nat}

theorem Driven.framesLeft_antitone (hd : Driven τ σ) (hbusy : ∀ m, n ≤ m → ((σ m).ctrl.get h).busy = true) {m k : Nat}
    (hn : n ≤ m) (hmk : m ≤ k) : ((σ k).ctrl.get h).framesLeft ≤ ((σ m).ctrl.get h).framesLeft := by
  induction k, hmk using Nat.le_induction with
  | base => exact Nat.le_refl _
  | succ k hmk ih =>
    obtain hown | hchange := hd.step_ctrl k h
    · exact hown.framesLeft_le.trans ih
    · rw [hchange.framesLeft_of_busy (hbusy k (hn.trans hmk))]
      exact ih

theorem Driven.frame_turn (hd : Driven τ σ) (hn : τ n = .frame h) (he : ((σ n).ctrl.get h).frameEnabled = true) :
    ((σ (n + 1)).ctrl.get h).framesLeft + 1 = ((σ n).ctrl.get h).framesLeft := by
  have ht := hd.takeTurn n
  rw [hn] at ht
  rw [← Host.Outcome.next.inj ht]
  have hleft : 0 < ((σ n).ctrl.get h).framesLeft := by simpa using (Bool.and_eq_true_iff.1 he).2
  simp [frameStep, he]
  omega

theorem Driven.complete_turn (hd : Driven τ σ) (hn : τ n = .complete h) (he : ((σ n).ctrl.get h).completeEnabled = true) :
    ((σ (n + 1)).ctrl.get h).busy = false := by
  have ht := hd.takeTurn n
  rw [hn] at ht
  rw [← Host.Outcome.next.inj ht]
  simp [completeStep, he]

/-- A controller busy for ever would shift every frame and complete: by induction on the frames left. -/
theorem not_busy_forever (hd : Driven τ σ) (hh : Healthy h τ σ)
    (hbusy : ∀ m, n ≤ m → ((σ m).ctrl.get h).busy = true) : False := by
  obtain ⟨hframe, hcomplete, -, -⟩ := hh
  induction hk : ((σ n).ctrl.get h).framesLeft using Nat.strong_induction_on generalizing n with
  | _ k ih =>
    by_cases hmoves : ∃ m, n ≤ m ∧ ((σ m).ctrl.get h).framesLeft < k
    · obtain ⟨m, hnm, hlt⟩ := hmoves
      exact ih _ hlt (fun j hj => hbusy j (hnm.trans hj)) rfl
    · have hstuck : ∀ m, n ≤ m → ((σ m).ctrl.get h).framesLeft = k := fun m hm =>
        Nat.le_antisymm (hk ▸ hd.framesLeft_antitone hbusy (Nat.le_refl n) hm)
          (Nat.le_of_not_lt fun hlt => hmoves ⟨m, hm, hlt⟩)
      obtain rfl | hpos := Nat.eq_zero_or_pos k
      · have hen : ∀ m, n ≤ m → ((σ m).ctrl.get h).completeEnabled = true := fun m hm => by
          simp [Ctrl.completeEnabled, hbusy m hm, hstuck m hm]
        obtain ⟨m, hm, hturn⟩ := hcomplete n hen
        have := hd.complete_turn hturn (hen m hm)
        rw [hbusy (m + 1) (Nat.le_succ_of_le hm)] at this
        cases this
      · have hen : ∀ m, n ≤ m → ((σ m).ctrl.get h).frameEnabled = true := fun m hm => by
          simp [Ctrl.frameEnabled, hbusy m hm, hstuck m hm, hpos]
        obtain ⟨m, hm, hturn⟩ := hframe n hen
        have := hd.frame_turn hturn (hen m hm)
        rw [hstuck m hm, hstuck (m + 1) (Nat.le_succ_of_le hm)] at this
        omega

end Transfer

/-- Settles O58: `not_busy_forever`. -/
theorem healthyControllerCompletesItsTransfer : Obligations.HealthyControllerCompletesItsTransfer := by
  intro τ σ h n hd hh _
  by_contra hnever
  refine not_busy_forever (n := n) hd hh fun m hm => ?_
  by_contra hb
  exact hnever ⟨m, hm, by simpa using hb⟩

/-! ## Flushes -/

/-- In a run in which `f` can only fall, and falls into `Q`, weak fairness of a turn that lowers `f` reaches `Q`. -/
theorem eventually_falls {f : State → Bool} {Q : State → Prop} {u : Turn} {n : Nat}
    (hfair : WeaklyFair f u τ σ) (hn : f (σ n) = true) (hturn : ∀ m, τ m = u → f (σ m) = true → f (σ (m + 1)) = false)
    (hfall : ∀ m, f (σ m) = true → f (σ (m + 1)) = false → Q (σ (m + 1))) :
    ∃ m, n ≤ m ∧ f (σ m) = false ∧ Q (σ m) := by
  obtain ⟨m, hm, hf⟩ : ∃ m, n ≤ m ∧ f (σ m) = false := by
    by_contra hnever
    have hall : ∀ m, n ≤ m → f (σ m) = true := fun m hm => by
      by_contra hf
      exact hnever ⟨m, hm, by simpa using hf⟩
    obtain ⟨m, hm, hu⟩ := hfair n hall
    have := hturn m hu (hall m hm)
    rw [hall (m + 1) (Nat.le_succ_of_le hm)] at this
    cases this
  induction m, hm using Nat.le_induction with
  | base => rw [hn] at hf; cases hf
  | succ m hm ih =>
    cases hfm : f (σ m) with
    | false => exact ih hfm
    | true => exact ⟨m + 1, Nat.le_succ_of_le hm, hf, hfall m hfm hf⟩

/-- A pending flush of either FIFO ends only by its completion, which empties the FIFO (R106, R149). -/
theorem flush_ends_empty {p : Params} {h : Handle} {now : Nat} {c d : Ctrl} (hc : CtrlOwn p h c d ∨ CtrlChange p now c d) :
    (c.flushTx = true → d.flushTx = false → d.txq = []) ∧ (c.flushRx = true → d.flushRx = false → d.rxq = []) := by
  refine ⟨fun hp hd => ?_, fun hp hd => ?_⟩
  · obtain hown | hchange := hc
    · cases hown with
      | endFlushTx => rfl
      | _ => simp [hp] at hd
    · cases hchange <;> simp [hp] at hd
  · obtain hown | hchange := hc
    · cases hown with
      | endFlushRx => rfl
      | _ => simp [hp] at hd
    · cases hchange <;> simp [hp] at hd

/-- Settles O59: `eventually_falls` for each FIFO. -/
theorem healthyControllerCompletesItsFlush : Obligations.HealthyControllerCompletesItsFlush := by
  intro τ σ h n hd hh
  obtain ⟨-, -, hfairTx, hfairRx⟩ := hh
  refine ⟨fun hn => ?_, fun hn => ?_⟩
  · refine eventually_falls (Q := fun s => (s.ctrl.get h).txq = []) hfairTx hn (fun m hturn hf => ?_)
      fun m => (flush_ends_empty (hd.step_ctrl m h)).1
    have ht := hd.takeTurn m
    rw [hturn] at ht
    rw [← Host.Outcome.next.inj ht]
    simp [flushTxStep, hf]
  · refine eventually_falls (Q := fun s => (s.ctrl.get h).rxq = []) hfairRx hn (fun m hturn hf => ?_)
      fun m => (flush_ends_empty (hd.step_ctrl m h)).2
    have ht := hd.takeTurn m
    rw [hturn] at ht
    rw [← Host.Outcome.next.inj ht]
    simp [flushRxStep, hf]

end Runs

end Sys2Proof.Machine
end

section
/-! Runs with given turns (00_scope R10; 42_polling_engine R173 to R183): a small logic in which each step of an engine, of a
controller, of Time or of the host has one rule. -/

namespace Sys2Proof.Machine

open Sys2Proof.Config (Params Agent Turn)

/-! ## What a run is followed through -/

/-- What a run of handle `h` is about: its controller, its engine up to `scratch` and `t0`, what is known of these two, and the
time and the results. -/
structure Snap where
  ctrl : Ctrl
  eng : Engine
  locals : Word → Word → Prop
  now : Nat
  results : List (Handle × Result)

/-- The engine at its next step, nothing known of `scratch` and `t0`. -/
def Snap.next (a : Snap) : Snap := { a with eng := { a.eng with pc := a.eng.pc + 1 }, locals := fun _ _ => True }

/-- `t` differs from `s` at most in what a run of handle `h` moves, and there it is as `a` says. -/
structure Snap.Holds (s : State) (h : Handle) (a : Snap) (t : State) : Prop where
  cfg : t.cfg = s.cfg
  refusal : t.refusal = none
  faults : t.faults = s.faults
  tmr : t.tmr = s.tmr
  now : t.now = a.now
  ctrl : t.ctrl = s.ctrl.set h a.ctrl
  eng : ∃ v w, a.locals v w ∧ t.eng.get h = { a.eng with scratch := v, t0 := w }
  results : t.results = a.results

/-- The turn `u` takes states as `a` says to states as `b` says. -/
def Takes (s : State) (h : Handle) (u : Turn) (a b : Snap) : Prop :=
  ∀ t, a.Holds s h t → t.actor = turnAgent u → ∃ t', takeTurn u t = .next t' ∧ b.Holds s h t'

/-- The turns `us` lead from states as `a` says to states as `b` says. -/
def Leads (s : State) (h : Handle) (us : List Turn) (a b : Snap) : Prop :=
  ∀ ts t, a.Holds s h t → ∃ t', runTurns (us ++ ts) t = runTurns ts t' ∧ b.Holds s h t'

section Rules

variable {s t : State} {h : Handle} {a b c : Snap}

theorem Snap.Holds.ctrl_get (ha : a.Holds s h t) : t.ctrl.get h = a.ctrl := by rw [ha.ctrl, PerHandle.get_set_self]

theorem Snap.Holds.halted (ha : a.Holds s h t) (k : Agent) : t.halted k = s.halted k := by
  rw [State.halted, State.halted, ha.faults]

/-- A variable of the engine other than `scratch` and `t0`. -/
theorem Snap.Holds.engLocal {α : Type} (ha : a.Holds s h t) (f : Engine → α)
    (hf : ∀ e v w, f { e with scratch := v, t0 := w } = f e) : f (t.eng.get h) = f a.eng := by
  obtain ⟨v, w, -, he⟩ := ha.eng
  rw [he, hf]

theorem Snap.Holds.busyCmd (ha : a.Holds s h t) : (t.eng.get h).busyCmd = a.eng.busyCmd :=
  ha.engLocal Engine.busyCmd fun _ _ _ => rfl

theorem Snap.Holds.initialized (ha : a.Holds s h t) : (t.eng.get h).initialized = a.eng.initialized :=
  ha.engLocal Engine.initialized fun _ _ _ => rfl

theorem Snap.Holds.micro_eq (ha : a.Holds s h t) : (t.eng.get h).micro? t.cfg = a.eng.micro? s.cfg := by
  obtain ⟨v, w, -, he⟩ := ha.eng
  rw [he, ha.cfg]
  rfl

theorem Snap.Holds.setCtrl (ha : a.Holds s h t) (d : Ctrl) : Snap.Holds s h { a with ctrl := d } (t.setCtrl h d) :=
  { ha with ctrl := by rw [State.setCtrl_ctrl, ha.ctrl, PerHandle.set_set_self] }

theorem Snap.Holds.afterDraw (ha : a.Holds s h t) : a.Holds s h t.afterDraw := by
  rw [State.afterDraw_eq]
  exact { ha with }

theorem Snap.Holds.returnRead (ha : a.Holds s h t) (v : Word) : a.Holds s h (t.returnRead v) := { ha with }

theorem Snap.Holds.setEng (ha : a.Holds s h t) (e : Engine) {l : Word → Word → Prop} {v w : Word} (hl : l v w) :
    Snap.Holds s h { a with eng := e, locals := l } (t.setEng h { e with scratch := v, t0 := w }) :=
  { ha with eng := ⟨v, w, hl, by rw [State.setEng_eng, PerHandle.get_set_self]⟩ }

/-! ## Sequences -/

theorem Leads.refl (a : Snap) : Leads s h [] a a := fun _ t ha => ⟨t, rfl, ha⟩

theorem Leads.trans {us vs : List Turn} (h₁ : Leads s h us a b) (h₂ : Leads s h vs b c) : Leads s h (us ++ vs) a c := by
  intro ts t ha
  obtain ⟨t₁, hrun₁, hb⟩ := h₁ (vs ++ ts) t ha
  obtain ⟨t₂, hrun₂, hc⟩ := h₂ ts t₁ hb
  exact ⟨t₂, by rw [List.append_assoc, hrun₁, hrun₂], hc⟩

/-- `Leads.trans` for a list of turns that is written out. -/
theorem Leads.seq {us vs ws : List Turn} (h₁ : Leads s h us a b) (h₂ : Leads s h vs b c) (hl : us ++ vs = ws := by rfl) :
    Leads s h ws a c := hl ▸ h₁.trans h₂

theorem Leads.run {us : List Turn} (hl : Leads s h us a b) (ha : a.Holds s h t) :
    ∃ t', runTurns us t = .next t' ∧ b.Holds s h t' := by
  obtain ⟨t', hrun, hb⟩ := hl [] t ha
  rw [List.append_nil, runTurns_nil] at hrun
  exact ⟨_, hrun, { hb with }⟩

theorem takeTurn_agenda {u : Turn} {s t : State} (ht : takeTurn u s = .next t) : t.agenda = s.agenda := by
  by_cases hu : u = .time
  · subst hu
    cases ht
    rfl
  · exact (takeTurn_kept hu ht).agenda

theorem Leads.turn {u : Turn} (hu : Takes s h u a b) : Leads s h [u] a b := by
  intro ts t ha
  obtain ⟨t', ht', hb⟩ := hu { t with agenda := ts, actor := turnAgent u } { ha with } rfl
  exact ⟨t', runTurns_cons ha.refusal ht' (takeTurn_agenda ht'), hb⟩

/-! ## Turns that are not the engine's (R143, R149, R170, R225) -/

theorem Takes.time (a : Snap) : Takes s h .time a { a with now := a.now + 1 } :=
  fun t ha _ => ⟨_, rfl, { ha with now := by rw [timeStep, ha.now] }⟩

theorem Takes.flushTx (hf : a.ctrl.flushTx = true) : Takes s h (.flushTx h) a { a with ctrl := a.ctrl.endFlushTx } :=
  fun t ha _ => ⟨_, rfl, by simpa [flushTxStep, ha.ctrl_get, hf] using ha.setCtrl a.ctrl.endFlushTx⟩

theorem Takes.flushRx (hf : a.ctrl.flushRx = true) : Takes s h (.flushRx h) a { a with ctrl := a.ctrl.endFlushRx } :=
  fun t ha _ => ⟨_, rfl, by simpa [flushRxStep, ha.ctrl_get, hf] using ha.setCtrl a.ctrl.endFlushRx⟩

/-! ## The engine's turn -/

theorem Takes.engine {m : Micro} (hlive : s.halted (.engine h) = false) (hb : a.eng.busyCmd = true)
    (hm : a.eng.micro? s.cfg = some m)
    (hrun : ∀ t, a.Holds s h t → t.mayAccess h = true → ∃ t', runMicro h m t = .next t' ∧ b.Holds s h t') :
    Takes s h (.engine h) a b := by
  intro t ha hact
  have hen : t.engineEnabled h = true := by rw [State.engineEnabled, ha.busyCmd, ha.halted, hb, hlive]; rfl
  obtain ⟨t', ht', hb'⟩ := hrun t ha (t.mayAccess_engine h hact)
  exact ⟨t', (engineStep_of_enabled hen (ha.micro_eq.trans hm)).trans ht', hb'⟩

/-- The rule of an engine's step that makes an access: the access, then what the engine does after it. -/
theorem Takes.access {m : Micro} {i : State → Instr} {after : State → State}
    (hlive : s.halted (.engine h) = false) (hb : a.eng.busyCmd = true)
    (hm : a.eng.micro? s.cfg = some m) (hmicro : ∀ t, runMicro h m t = engineAccess h (i t) t after)
    (hexec : ∀ t, a.Holds s h t → t.mayAccess h = true → ∃ u, exec (i t) t = .next u ∧ b.Holds s h u ∧ c.Holds s h (after u)) :
    Takes s h (.engine h) a c := by
  refine .engine hlive hb hm fun t ha hacc => ?_
  obtain ⟨u, hu, hbu, hc⟩ := hexec t ha hacc
  exact ⟨_, (hmicro t).trans (engineAccess_of_next _ hu ((hbu.halted _).trans hlive) hbu.refusal), hc⟩

/-- The engine moves on, and the locals hold what the new knowledge says. -/
theorem Snap.Holds.advance (ha : a.Holds s h t) {f : Engine → Engine} {l : Word → Word → Prop}
    (hf : ∀ v w, a.locals v w → ∃ v' w', l v' w' ∧
      f { a.eng with scratch := v, t0 := w } = { a.eng with scratch := v', t0 := w' }) :
    Snap.Holds s h { a.next with locals := l } (t.advance h f) := by
  obtain ⟨v, w, hl, he⟩ := ha.eng
  obtain ⟨v', w', hl', hf'⟩ := hf v w hl
  refine { ha with eng := ⟨v', w', hl', ?_⟩ }
  rw [State.advance, State.setEng_eng, PerHandle.get_set_self, he, hf']
  rfl

theorem Snap.Holds.advance_id (ha : a.Holds s h t) : a.next.Holds s h (t.advance h id) :=
  ha.advance fun v w _ => ⟨v, w, trivial, rfl⟩

end Rules

section EngineRules

/-! ## One rule per step of an engine (R173 to R183) -/

variable {s : State} {h : Handle} {a : Snap} (hlive : s.halted (.engine h) = false) (hb : a.eng.busyCmd = true)

include hlive hb

theorem Takes.readCommand1 (hm : a.eng.micro? s.cfg = some .readCommand1) :
    Takes s h (.engine h) a { a.next with
      ctrl := a.ctrl.closeStale a.now
      locals := fun v _ => ∃ d, v = command1Word s.cfg a.ctrl.command1 a.ctrl.busy d } := by
  refine .access (b := { a with ctrl := a.ctrl.closeStale a.now }) hlive hb hm (fun _ => rfl) fun t ha hacc =>
    ⟨_, exec_rdCommand1 hacc, ?_⟩
  rw [ha.ctrl_get, ha.now, ha.cfg]
  have hu := (ha.afterDraw.setCtrl (a.ctrl.closeStale a.now)).returnRead
    (command1Word s.cfg a.ctrl.command1 a.ctrl.busy t.drawn)
  exact ⟨hu, hu.advance fun _ w _ => ⟨_, w, ⟨_, rfl⟩, rfl⟩⟩

theorem Takes.dummyRead (hm : a.eng.micro? s.cfg = some .dummyRead) :
    Takes s h (.engine h) a { a.next with ctrl := a.ctrl.closeStale a.now } := by
  refine .access (b := { a with ctrl := a.ctrl.closeStale a.now }) hlive hb hm (fun _ => rfl) fun t ha hacc =>
    ⟨_, exec_rdCommand1 hacc, ?_⟩
  rw [ha.ctrl_get, ha.now, ha.cfg]
  have hu := (ha.afterDraw.setCtrl (a.ctrl.closeStale a.now)).returnRead
    (command1Word s.cfg a.ctrl.command1 a.ctrl.busy t.drawn)
  exact ⟨hu, hu.advance_id⟩

/-- A step that writes a register of the controller and moves on. -/
theorem Takes.write {m : Micro} {i : State → Instr} {d : Ctrl} (hm : a.eng.micro? s.cfg = some m)
    (hmicro : ∀ t, runMicro h m t = engineAccess h (i t) t fun u => u.advance h id)
    (hexec : ∀ t, a.Holds s h t → t.mayAccess h = true → exec (i t) t = .next (t.setCtrl h d)) :
    Takes s h (.engine h) a { a.next with ctrl := d } :=
  .access hlive hb hm hmicro fun t ha hacc => ⟨_, hexec t ha hacc, ha.setCtrl d, (ha.setCtrl d).advance_id⟩

theorem Takes.writeCommand1 {clr set w : Word} (hm : a.eng.micro? s.cfg = some (.writeCommand1 clr set))
    (hidle : a.ctrl.busy = false)
    (hw : ∀ v t0, a.locals v t0 → pioBit s.cfg (rmwWord v clr set) = false ∧ storeCommand1 s.cfg (rmwWord v clr set) = w) :
    Takes s h (.engine h) a { a.next with ctrl := { a.ctrl with command1 := w, tLastw := some a.now } } := by
  refine .write hlive hb hm (fun _ => rfl) fun t ha hacc => ?_
  obtain ⟨v, t0, hl, he⟩ := ha.eng
  obtain ⟨hpio, hstore⟩ := hw v t0 hl
  have hv : (t.eng.get h).scratch = v := by rw [he]
  rw [exec_wrCommand1_configure hacc (by rw [ha.ctrl_get, hidle]) (by rw [ha.cfg, hv, hpio]), ha.ctrl_get, ha.cfg, ha.now, hv,
    Ctrl.setCommand1, hstore]
  rfl

theorem Takes.triggerCommand1 {clr set w : Word} (hm : a.eng.micro? s.cfg = some (.writeCommand1 clr set))
    (hidle : a.ctrl.busy = false)
    (hw : ∀ v t0, a.locals v t0 → pioBit s.cfg (rmwWord v clr set) = true ∧ storeCommand1 s.cfg (rmwWord v clr set) = w)
    (hset : a.ctrl.settled a.now = true) (hft : a.ctrl.flushTx = false) (hfr : a.ctrl.flushRx = false)
    (hc : checkConfig s.cfg w = none) :
    Takes s h (.engine h) a { a.next with
      ctrl := (Ctrl.start s.cfg a.now { a.ctrl with command1 := w }).touch a.now } := by
  refine .write hlive hb hm (fun _ => rfl) fun t ha hacc => ?_
  obtain ⟨v, t0, hl, he⟩ := ha.eng
  obtain ⟨hpio, hstore⟩ := hw v t0 hl
  have hv : (t.eng.get h).scratch = v := by rw [he]
  have hctrl := ha.ctrl_get
  rw [hv, exec_wrCommand1_start hacc (by rw [hctrl, hidle]) (by rw [ha.cfg, hpio]) (by rw [hctrl, ha.now, hset])
    (by rw [hctrl, hft]) (by rw [hctrl, hfr]) (by rw [ha.cfg, hstore, hc]), ha.ctrl_get, ha.cfg, ha.now,
    Ctrl.setCommand1, hstore]

theorem Takes.writeTransStatus {v : Word} (hm : a.eng.micro? s.cfg = some (.writeTransStatus v)) :
    Takes s h (.engine h) a { a.next with ctrl := (a.ctrl.clearRdy s.cfg v).touch a.now } := by
  refine .write hlive hb hm (fun _ => rfl) fun t ha hacc => ?_
  rw [exec_wrTransStatus hacc, ha.ctrl_get, ha.cfg, ha.now]

theorem Takes.writeFifoStatus {v : Word} (hm : a.eng.micro? s.cfg = some (.writeFifoStatus v)) (hidle : a.ctrl.busy = false) :
    Takes s h (.engine h) a { a.next with ctrl := ((a.ctrl.clearErrors s.cfg v).startFlush s.cfg v).touch a.now } := by
  refine .write hlive hb hm (fun _ => rfl) fun t ha hacc => ?_
  rw [exec_wrFifoStatus hacc (by rw [ha.ctrl_get, hidle, Bool.and_false]), ha.ctrl_get, ha.cfg, ha.now]

theorem Takes.writeBlkSize {v : Word} (hm : a.eng.micro? s.cfg = some (.writeBlkSize v)) (hidle : a.ctrl.busy = false) :
    Takes s h (.engine h) a { a.next with ctrl := (a.ctrl.setBlkSize s.cfg v).touch a.now } := by
  refine .write hlive hb hm (fun _ => rfl) fun t ha hacc => ?_
  rw [exec_wrBlkSize hacc _ (by rw [ha.ctrl_get, hidle]), ha.ctrl_get, ha.cfg, ha.now]

theorem Takes.writeTxFifo {v : Word} (hm : a.eng.micro? s.cfg = some (.writeTxFifo v)) (hf : a.ctrl.flushTx = false) :
    Takes s h (.engine h) a { a.next with ctrl := (a.ctrl.touch a.now).pushTx s.cfg v } := by
  refine .write hlive hb hm (fun _ => rfl) fun t ha hacc => ?_
  rw [exec_wrTxFifo hacc _ (by rw [ha.ctrl_get, hf]), ha.ctrl_get, ha.cfg, ha.now]

omit hlive hb in
theorem Snap.Holds.pollNext {t : State} {mask eq : Word} (ha : a.Holds s h t) (hr : t.rdata &&& mask = eq) :
    a.next.Holds s h (t.pollNext h mask eq) := by
  obtain ⟨v, w, -, he⟩ := ha.eng
  rw [State.pollNext_eq, if_pos hr]
  exact { ha with eng := ⟨t.rdata, w, trivial, by rw [PerHandle.get_set_self, he]; rfl⟩ }

theorem Takes.pollTransStatus {mask eq : Word} (hm : a.eng.micro? s.cfg = some (.pollTransStatus mask eq))
    (hsat : ∀ d, transStatusWord s.cfg a.ctrl d &&& mask = eq) : Takes s h (.engine h) a a.next := by
  refine .access (b := a) hlive hb hm (fun _ => rfl) fun t ha hacc => ⟨_, exec_rdTransStatus hacc, ?_⟩
  have hu := ha.afterDraw.returnRead (transStatusWord t.cfg (t.ctrl.get h) t.drawn)
  exact ⟨hu, hu.pollNext (by rw [State.returnRead_rdata, ha.cfg, ha.ctrl_get, hsat])⟩

theorem Takes.pollFifoStatus {mask eq : Word} (hm : a.eng.micro? s.cfg = some (.pollFifoStatus mask eq))
    (hsat : ∀ d, fifoStatusWord s.cfg a.ctrl d &&& mask = eq) : Takes s h (.engine h) a a.next := by
  refine .access (b := a) hlive hb hm (fun _ => rfl) fun t ha hacc => ⟨_, exec_rdFifoStatus hacc, ?_⟩
  have hu := ha.afterDraw.returnRead (fifoStatusWord t.cfg (t.ctrl.get h) t.drawn)
  exact ⟨hu, hu.pollNext (by rw [State.returnRead_rdata, ha.cfg, ha.ctrl_get, hsat])⟩

theorem Takes.delayStart (hm : a.eng.micro? s.cfg = some .delayStart) :
    Takes s h (.engine h) a { a.next with locals := fun _ w => w = counterWord s.tmr a.now } := by
  refine .access (b := a) (i := fun _ => .rdTmrCntr1us) (after := fun t => t.advance h fun e => { e with t0 := t.rdata })
    hlive hb hm (fun _ => rfl) fun t ha _ => ⟨_, rfl, ?_⟩
  have hu := ha.returnRead (counterWord t.tmr t.now)
  exact ⟨hu, hu.advance fun v w _ => ⟨v, _, by rw [State.returnRead_rdata, ha.tmr, ha.now], rfl⟩⟩

theorem Takes.delayWait {n : Nat} (hm : a.eng.micro? s.cfg = some (.delayWait n))
    (hover : ∀ v w, a.locals v w → n ≤ elapsed (counterWord s.tmr a.now) w) : Takes s h (.engine h) a a.next := by
  refine .access (b := a) (i := fun _ => .rdTmrCntr1us) hlive hb hm (fun _ => rfl) fun t ha _ => ⟨_, rfl, ?_⟩
  have hu := ha.returnRead (counterWord t.tmr t.now)
  obtain ⟨v, w, hl, he⟩ := hu.eng
  have hge : ¬ elapsed (t.returnRead (counterWord t.tmr t.now)).rdata
      ((t.returnRead (counterWord t.tmr t.now)).eng.get h).t0 < n := by
    rw [he, State.returnRead_rdata, ha.tmr, ha.now]
    exact Nat.not_lt.2 (hover v w hl)
  refine ⟨hu, ?_⟩
  rw [State.delayNext, if_neg hge]
  exact hu.advance_id

end EngineRules

end Sys2Proof.Machine
end

section
/-! The steps that end a command, the drain, the host's turn, and the counter's arithmetic (42_polling_engine R176 to R183, R189;
60_exceptions R225). -/

namespace Sys2Proof.Machine

open Sys2Proof.Config (Params Agent Turn)

/-! ## The counter (R176, R225) -/

theorem elapsed_counterWord (t : TimeBase) (n k : Nat) :
    elapsed (counterWord t (n + k)) (counterWord t n) = k % 2 ^ 32 := by
  have hsub : counterWord t (n + k) - counterWord t n = BitVec.ofNat 32 k := by
    rw [counterWord, counterWord, BitVec.ofNat_add, ← BitVec.add_assoc, BitVec.add_comm (t.cntr0 + _), BitVec.add_sub_cancel]
  rw [elapsed, hsub, BitVec.toNat_ofNat]

/-- Settles O35: the counter's difference is at most the microseconds that passed. -/
theorem delayLastsAtLeastItsMicroseconds : Obligations.DelayLastsAtLeastItsMicroseconds := by
  intro s t h n t0 ts ha hen hm ht0 hle ht hpc
  have hr := (step_cases ht).1
  rw [step_of_agenda hr ha] at ht
  obtain ⟨k, hk⟩ := Nat.exists_eq_add_of_le hle
  have hrun := (engineStep_of_enabled (s := { s with agenda := ts, actor := .engine h }) hen hm).symm.trans ht
  obtain ⟨u, hu, ⟨rfl, -⟩ | ⟨-, -, rfl⟩⟩ := engineAccess_cases (i := .rdTmrCntr1us) hrun
  · cases hu
    simp at hpc
  · cases hu
    rw [State.delayNext] at hpc
    split at hpc
    · simp at hpc
    · rename_i hge
      have hel : n ≤ elapsed (counterWord s.tmr s.now) (s.eng.get h).t0 := Nat.not_lt.1 hge
      rw [ht0, hk, elapsed_counterWord] at hel
      have := Nat.mod_le k (2 ^ 32)
      omega

section Ends

variable {s t : State} {h : Handle} {a : Snap}

/-! ## Results (R171) -/

/-- The command has ended with a result. -/
def Snap.finished (h : Handle) (r : Result) (a : Snap) : Snap :=
  { a with eng := { a.eng with busyCmd := false, result := some r }, results := a.results ++ [(h, r)] }

theorem Snap.Holds.finish (ha : a.Holds s h t) (r : Result) : (a.finished h r).Holds s h (t.finish h r) := by
  obtain ⟨v, w, hl, he⟩ := ha.eng
  refine { ha with eng := ⟨v, w, hl, ?_⟩, results := ?_ }
  · rw [State.finish_eng, PerHandle.get_set_self, he]
    rfl
  · rw [State.finish_results, ha.results]
    rfl

/-- Nothing is known of `scratch` after it is given a value. -/
def Snap.forget (a : Snap) : Snap := { a with locals := fun _ _ => True }

theorem Snap.Holds.keepScratch (ha : a.Holds s h t) (v : Word) :
    a.forget.Holds s h (t.setEng h { t.eng.get h with scratch := v }) := by
  obtain ⟨v', w, -, he⟩ := ha.eng
  exact { ha with eng := ⟨v, w, trivial, by rw [State.setEng_eng, PerHandle.get_set_self, he]; rfl⟩ }

/-! ## The last steps of a command -/

variable (hlive : s.halted (.engine h) = false) (hb : a.eng.busyCmd = true)

include hlive hb

theorem Takes.finishOk (hm : a.eng.micro? s.cfg = some .finishOk) : Takes s h (.engine h) a (a.finished h .ok) :=
  .engine hlive hb hm fun _ ha _ => ⟨_, rfl, ha.finish .ok⟩

theorem Takes.finishData (hm : a.eng.micro? s.cfg = some .finishData) :
    Takes s h (.engine h) a (a.finished h (.okData a.eng.out)) := by
  refine .engine hlive hb hm fun t ha _ => ⟨_, rfl, ?_⟩
  obtain ⟨v, w, -, he⟩ := ha.eng
  have hout : (t.eng.get h).out = a.eng.out := by rw [he]
  rw [hout]
  exact ha.finish _

theorem Takes.finishInit (hm : a.eng.micro? s.cfg = some .finishInit) :
    Takes s h (.engine h) a (Snap.finished h .ok { a with eng := { a.eng with initialized := true } }) := by
  refine .engine hlive hb hm fun t ha _ => ⟨_, rfl, Snap.Holds.finish ?_ .ok⟩
  obtain ⟨v, w, hl, he⟩ := ha.eng
  rw [he]
  exact ha.setEng _ hl

theorem Takes.clearErrAndFail (hm : a.eng.micro? s.cfg = some .clearErrAndFail)
    (hbusy : (asksFlush s.cfg (mErrAll s.cfg) && a.ctrl.busy) = false) :
    Takes s h (.engine h) a (Snap.finished h .transferError { a with
      ctrl := ((a.ctrl.clearErrors s.cfg (mErrAll s.cfg)).startFlush s.cfg (mErrAll s.cfg)).touch a.now }) := by
  let d := ((a.ctrl.clearErrors s.cfg (mErrAll s.cfg)).startFlush s.cfg (mErrAll s.cfg)).touch a.now
  refine .access (b := { a with ctrl := d }) (i := fun t => .wrFifoStatus h (mErrAll t.cfg))
    (after := fun t => t.finish h .transferError) hlive hb hm (fun _ => rfl) fun t ha hacc => ⟨_, exec_wrFifoStatus hacc (by rw [ha.ctrl_get, ha.cfg, hbusy]), ?_⟩
  rw [ha.ctrl_get, ha.cfg, ha.now]
  exact ⟨ha.setCtrl _, (ha.setCtrl _).finish _⟩

theorem Takes.checkErrReturn_ok (hm : a.eng.micro? s.cfg = some .checkErrReturn)
    (herr : ∀ d, fifoStatusWord s.cfg a.ctrl d &&& mErr s.cfg = 0) :
    Takes s h (.engine h) a (a.forget.finished h .ok) := by
  refine .access (b := a) (after := fun t => t.errNext h) hlive hb hm (fun _ => rfl) fun t ha hacc =>
    ⟨_, exec_rdFifoStatus hacc, ?_⟩
  have hu := ha.afterDraw.returnRead (fifoStatusWord t.cfg (t.ctrl.get h) t.drawn)
  refine ⟨hu, ?_⟩
  rw [State.errNext, if_pos (by rw [State.returnRead_rdata, hu.cfg, ha.cfg, ha.ctrl_get, herr])]
  exact (hu.keepScratch _).finish .ok

theorem Takes.checkErrReturn_failed (hm : a.eng.micro? s.cfg = some .checkErrReturn)
    (herr : ∀ d, fifoStatusWord s.cfg a.ctrl d &&& mErr s.cfg ≠ 0) : Takes s h (.engine h) a a.next := by
  refine .access (b := a) (after := fun t => t.errNext h) hlive hb hm (fun _ => rfl) fun t ha hacc =>
    ⟨_, exec_rdFifoStatus hacc, ?_⟩
  have hu := ha.afterDraw.returnRead (fifoStatusWord t.cfg (t.ctrl.get h) t.drawn)
  refine ⟨hu, ?_⟩
  rw [State.errNext, if_neg (by rw [State.returnRead_rdata, hu.cfg, ha.cfg, ha.ctrl_get]; exact herr _)]
  exact (hu.keepScratch _).advance_id

theorem Takes.checkErrDrain_ok {d : Nat} (hm : a.eng.micro? s.cfg = some (.checkErrDrain d))
    (herr : ∀ d, fifoStatusWord s.cfg a.ctrl d &&& mErr s.cfg = 0) :
    Takes s h (.engine h) a { a.forget with eng := { a.eng with k := 0, out := [], pc := d } } := by
  refine .access (b := a) (after := fun t => t.errDrainNext h d) hlive hb hm (fun _ => rfl) fun t ha hacc =>
    ⟨_, exec_rdFifoStatus hacc, ?_⟩
  have hu := ha.afterDraw.returnRead (fifoStatusWord t.cfg (t.ctrl.get h) t.drawn)
  refine ⟨hu, ?_⟩
  rw [State.errDrainNext, if_pos (by rw [State.returnRead_rdata, hu.cfg, ha.cfg, ha.ctrl_get, herr])]
  obtain ⟨v, w, -, he⟩ := hu.eng
  rw [he]
  exact hu.setEng (l := fun _ _ => True) _ trivial

theorem Takes.checkErrDrain_failed {d : Nat} (hm : a.eng.micro? s.cfg = some (.checkErrDrain d))
    (herr : ∀ d, fifoStatusWord s.cfg a.ctrl d &&& mErr s.cfg ≠ 0) : Takes s h (.engine h) a a.next := by
  refine .access (b := a) (after := fun t => t.errDrainNext h d) hlive hb hm (fun _ => rfl) fun t ha hacc =>
    ⟨_, exec_rdFifoStatus hacc, ?_⟩
  have hu := ha.afterDraw.returnRead (fifoStatusWord t.cfg (t.ctrl.get h) t.drawn)
  refine ⟨hu, ?_⟩
  rw [State.errDrainNext, if_neg (by rw [State.returnRead_rdata, hu.cfg, ha.cfg, ha.ctrl_get]; exact herr _)]
  obtain ⟨v, w, -, he⟩ := hu.eng
  rw [he]
  exact hu.setEng (l := fun _ _ => True) _ trivial

/-! ## The drain (R182 step 22, R189) -/

theorem Takes.drain {w : Word} {q : List Word} (hm : a.eng.micro? s.cfg = some .drain)
    (hf : a.ctrl.flushRx = false) (hq : a.ctrl.rxq = w :: q) :
    Takes s h (.engine h) a { a with
      ctrl := { a.ctrl with rxq := q }
      eng := { a.eng with
        out := a.eng.out ++ [lowByte w], k := a.eng.k + 1
        pc := if a.eng.k + 1 < a.eng.len then a.eng.pc else a.eng.pc + 1 } } := by
  refine .access (b := { a with ctrl := { a.ctrl with rxq := q } }) (after := fun t => t.drainNext h)
    hlive hb hm (fun _ => rfl) fun t ha hacc =>
    ⟨_, exec_rdRxFifo_head hacc (by rw [ha.ctrl_get, hf]) (by rw [ha.ctrl_get, hq]), ?_⟩
  rw [ha.ctrl_get]
  have hu := (ha.setCtrl { a.ctrl with rxq := q }).returnRead w
  refine ⟨hu, ?_⟩
  obtain ⟨v, t0, hl, he⟩ := hu.eng
  rw [State.drainNext, he, State.returnRead_rdata]
  dsimp only
  split
  · exact hu.setEng _ hl
  · exact hu.setEng _ hl

end Ends

/-! ## The host's turn (R170) -/

/-- An accepted command: `f` is what acceptance does to the engine. -/
theorem Takes.command {s : State} {h : Handle} {a : Snap} {c : Word} {bytes : List Byte} {i : Instr} (f : Engine → Engine)
    (hdec : decodeCmd c bytes = .ok i)
    (hf : ∀ v w, f { a.eng with scratch := v, t0 := w } = { f a.eng with scratch := v, t0 := w })
    (hexec : ∀ t, a.Holds s h t → exec i t = .next (t.setEng h (f (t.eng.get h)))) :
    Takes s h (.host c bytes) a { a with eng := f a.eng } := by
  refine fun t ha _ => ⟨_, (hostStep_of_decoded t hdec).trans (hexec t ha), ?_⟩
  obtain ⟨v, w, hl, he⟩ := ha.eng
  rw [he, hf v w]
  exact ha.setEng _ hl

end Sys2Proof.Machine
end

section
/-! The default layout (30_encoding R85): the words a poll, an error check and a read-modify-write see. -/

namespace Sys2Proof.Machine

open Sys2Proof.Config (Params Agent Turn)

/-! ## Words read by a poll and by an error check (R103, R105) -/

theorem transStatusWord_and_rdy {p : Params} {c : Ctrl} (hp : p.rdy < 32) (hs : c.stale = false) (d : Word) :
    transStatusWord p c d &&& mRdy p = mRdy p ↔ c.rdy = true := by
  rw [mRdy, and_fieldMask_one_eq_mask _ _ hp, getLsbD_transStatusWord _ _ _ hp, if_pos ⟨rfl, hs⟩]

theorem fifoStatusWord_and_flushBoth {c : Ctrl} (ht : c.flushTx = false) (hr : c.flushRx = false) (d : Word) :
    fifoStatusWord Config.defaults c d &&& 0xC000 = 0 := by
  have hbit : ∀ k, 4 ≤ k ∧ k < 16 → (putFlagBits Config.defaults c d).getLsbD k = false →
      fifoStatusWord Config.defaults c d &&& fieldMask k 1 = 0 := fun k hk hf => by
    rw [and_fieldMask_one_eq_zero _ _ (by omega), getLsbD_fifoStatusWord_flag _ _ hk, hf]
  have hmask : (0xC000 : Word) = fieldMask 15 1 ||| fieldMask 14 1 := by decide
  rw [hmask, BitVec.and_or_distrib_left, hbit 15 (by decide) (by rw [getLsbD_putFlagBits _ _ (by decide)]; exact hr),
    hbit 14 (by decide) (by rw [getLsbD_putFlagBits _ _ (by decide)]; exact ht)]
  rfl

theorem fifoStatusWord_and_err (c : Ctrl) (d : Word) :
    fifoStatusWord Config.defaults c d &&& mErr Config.defaults = 0 ↔ c.err = false := by
  have hmask : mErr Config.defaults = fieldMask 8 1 := by decide
  rw [hmask, and_fieldMask_one_eq_zero _ _ (by decide), getLsbD_fifoStatusWord_flag _ _ (by decide),
    getLsbD_putFlagBits _ _ (by decide)]
  rfl

/-! ## A read-modify-write of `COMMAND1` (R175) -/

/-- A word that holds only RW fields is what it stores. -/
theorem and_rw_of_stored {w : Word} (hw : w &&& ~~~(0x7FFFF83F : Word) = 0) {k : Nat} (hk : k < 32)
    (hm : (0x7FFFF83F : Word).getLsbD k = false) : w.getLsbD k = false := by
  have hb : (w &&& ~~~(0x7FFFF83F : Word)).getLsbD k = (0#32).getLsbD k := by rw [hw]; rfl
  rwa [BitVec.getLsbD_and, BitVec.getLsbD_not, hm, Bool.not_false, Bool.and_true, decide_eq_true hk, Bool.and_true,
    BitVec.getLsbD_zero] at hb

theorem getLsbD_rmwWord (v clr set : Word) {k : Nat} (hk : k < 32) :
    (rmwWord v clr set).getLsbD k = (v.getLsbD k && !clr.getLsbD k || set.getLsbD k) := by
  simp only [rmwWord, BitVec.getLsbD_or, BitVec.getLsbD_and, BitVec.getLsbD_not, hk, decide_true, Bool.true_and]

theorem pioBit_rmwWord (stored draw clr set : Word) :
    pioBit Config.defaults (rmwWord (command1Word Config.defaults stored false draw) clr set) = set.getLsbD 31 := by
  rw [pioBit_defaults, getLsbD_rmwWord _ _ _ (by decide), getLsbD_command1Word _ _ _ _ (by decide), 
    if_pos (show 31 = Config.defaults.command1.pio from rfl), Bool.false_and, Bool.false_or]

/-- Outside the RW fields nothing is stored; in them the word read is the stored one. -/
theorem storeCommand1_rmwWord {stored : Word} (draw clr set : Word) (hst : stored &&& ~~~(0x7FFFF83F : Word) = 0) :
    storeCommand1 Config.defaults (rmwWord (command1Word Config.defaults stored false draw) clr set) =
      (stored &&& ~~~clr) ||| (set &&& 0x7FFFF83F) := by
  rw [storeCommand1_defaults]
  apply BitVec.eq_of_getLsbD_eq
  intro k hk
  simp only [BitVec.getLsbD_and, BitVec.getLsbD_or, BitVec.getLsbD_not, hk, decide_true, Bool.true_and]
  cases hm : (0x7FFFF83F : Word).getLsbD k with
  | false => rw [and_rw_of_stored hst hk hm, Bool.and_false, Bool.and_false, Bool.false_and, Bool.false_or]
  | true =>
    have hpio : k ≠ Config.defaults.command1.pio := by rintro rfl; revert hm; decide
    have hres : (mCommand1Reserved Config.defaults).getLsbD k = false := by
      have : mCommand1Reserved Config.defaults = ~~~(0x7FFFF83F ||| 0x80000000 : Word) := by decide
      rw [this, BitVec.getLsbD_not, BitVec.getLsbD_or, hm, Bool.true_or, Bool.not_true, Bool.and_false]
    rw [Bool.and_true, Bool.and_true, getLsbD_rmwWord _ _ _ hk, getLsbD_command1Word _ _ _ _ hk, if_neg hpio, hres]
    rfl

/-- What a read-modify-write stores is again a word of RW fields. -/
theorem stored_rmw {stored : Word} (clr set : Word) (hst : stored &&& ~~~(0x7FFFF83F : Word) = 0) :
    ((stored &&& ~~~clr) ||| (set &&& 0x7FFFF83F)) &&& ~~~(0x7FFFF83F : Word) = 0 := by
  apply BitVec.eq_of_getLsbD_eq
  intro k hk
  simp only [BitVec.getLsbD_and, BitVec.getLsbD_or, BitVec.getLsbD_not, hk, decide_true, Bool.true_and, BitVec.ofNat_eq_ofNat,
    BitVec.getLsbD_zero]
  cases hm : (0x7FFFF83F : Word).getLsbD k with
  | false => rw [and_rw_of_stored hst hk hm]; simp
  | true => simp

@[simp] theorem and_not_zero (w : Word) : w &&& ~~~(0 : Word) = w := BitVec.and_allOnes

/-- Two read-modify-writes, the second of which clears what it is told to. -/
theorem rmw_rmw (w clr set clr' set' : Word) :
    ((w &&& ~~~clr) ||| set) &&& ~~~clr' ||| set' = (w &&& ~~~(clr ||| clr')) ||| ((set &&& ~~~clr') ||| set') := by
  rw [BitVec.and_or_distrib_right, BitVec.not_or, ← BitVec.and_assoc, BitVec.or_assoc]

end Sys2Proof.Machine
end

section
/-! The stretches the four commands share (42_polling_engine R174 to R180): read-modify-write, flush, delay, trigger. -/

namespace Sys2Proof.Machine

open Sys2Proof.Config (Params Agent Turn)

/-- Controller and engine `h` of `s`, as a run from `s` begins. -/
def Snap.of (s : State) (h : Handle) : Snap := ⟨s.ctrl.get h, s.eng.get h, fun _ _ => True, s.now, s.results⟩

theorem Snap.of_holds {s : State} (h : Handle) (hr : s.refusal = none) : (Snap.of s h).Holds s h s :=
  ⟨rfl, hr, rfl, rfl, rfl, (PerHandle.set_get_self _ _).symm, ⟨_, _, trivial, rfl⟩, rfl⟩

/-- Settles O33: the condition of the poll, on the word read, is RDY. -/
theorem readyWaitEndsOnlyOnReady : Obligations.ReadyWaitEndsOnlyOnReady := by
  intro s t h ts ha hp hen hm hs ht
  have hr := (step_cases ht).1
  have hacc : ({ s with agenda := ts, actor := .engine h } : State).mayAccess h = true := State.mayAccess_engine _ _ rfl
  obtain ⟨u, hu, -, heng, hstep⟩ := pollRepeatsUntilItsConditionHolds s h _ _ ts _ hr ha hen (.inl ⟨hm, rfl⟩)
  have hread : u.rdata = transStatusWord s.cfg (s.ctrl.get h) ({ s with agenda := ts, actor := .engine h } : State).drawn := by
    rw [← Host.Outcome.next.inj ((exec_rdTransStatus hacc).symm.trans hu)]
    rfl
  rw [← Host.Outcome.next.inj (hstep.symm.trans ht), hread]
  dsimp only
  rw [PerHandle.get_set_self, ← transStatusWord_and_rdy hp hs ({ s with agenda := ts, actor := .engine h } : State).drawn]
  split
  · rename_i hcond
    exact iff_of_true rfl hcond
  · rename_i hcond
    exact iff_of_false (Nat.succ_ne_self _).symm hcond

section Stretches

variable {s : State} {h : Handle} {a : Snap} (hcfg : s.cfg = Config.defaults) (hlive : s.halted (.engine h) = false)
  (hb : a.eng.busyCmd = true)

include hlive hb

theorem Leads.delay {n : Nat} (hm₁ : a.eng.micro? s.cfg = some .delayStart)
    (hm₂ : a.next.eng.micro? s.cfg = some (.delayWait n)) (hn : n < 2 ^ 32) :
    Leads s h (.engine h :: (List.replicate n .time ++ [.engine h])) a { a.next.next with now := a.now + n } := by
  have wait (b : Snap) (k : Nat) : Leads s h (List.replicate k .time) b { b with now := b.now + k } := by
    induction k generalizing b with
    | zero => exact .refl _
    | succ k ih =>
      have := (Leads.turn (Takes.time (s := s) (h := h) b)).trans (ih _)
      rwa [Nat.add_assoc, Nat.add_comm 1 k] at this
  refine (Leads.turn (Takes.delayStart hlive hb hm₁)).trans ((wait _ n).trans (.turn (.delayWait hlive hb hm₂ ?_)))
  rintro v w rfl
  exact (elapsed_counterWord _ _ _).symm ▸ (Nat.mod_eq_of_lt hn).ge

include hcfg

/-- A read-modify-write of an idle controller that does not set PIO (R175). -/
theorem Leads.rmw {clr set w : Word} {stale : Bool} (hm₁ : a.eng.micro? s.cfg = some .readCommand1)
    (hm₂ : a.next.eng.micro? s.cfg = some (.writeCommand1 clr set)) (hidle : a.ctrl.busy = false)
    (hst : a.ctrl.command1 &&& ~~~(0x7FFFF83F : Word) = 0) (hset : set.getLsbD 31 = false)
    (hw : (a.ctrl.command1 &&& ~~~clr) ||| (set &&& 0x7FFFF83F) = w)
    (hs : (a.ctrl.stale && decide (a.now - a.ctrl.tTrig < 1)) = stale) :
    Leads s h [.engine h, .engine h] a { a.next.next with ctrl := { a.ctrl with
      command1 := w, stale := stale, tLastw := some a.now } } := by
  subst hw hs
  have hread := Leads.turn (Takes.readCommand1 hlive hb hm₁)
  rw [Ctrl.closeStale_eq] at hread
  refine hread.seq (.turn (.writeCommand1 hlive (by exact hb) (by exact hm₂) (by exact hidle) ?_))
  rintro v t0 ⟨d, rfl⟩
  rw [hcfg, hidle]
  exact ⟨(pioBit_rmwWord _ _ _ _).trans hset, storeCommand1_rmwWord _ _ _ hst⟩

/-- The trigger of an idle, settled controller in an admitted configuration (R140, R180 steps 13 and 14). -/
theorem Leads.trigger (hm₁ : a.eng.micro? s.cfg = some .readCommand1)
    (hm₂ : a.next.eng.micro? s.cfg = some (.writeCommand1 0 0x80000000)) (hidle : a.ctrl.busy = false)
    (hst : a.ctrl.command1 &&& ~~~(0x7FFFF83F : Word) = 0) (hset : a.ctrl.settled a.now = true)
    (hft : a.ctrl.flushTx = false) (hfr : a.ctrl.flushRx = false)
    (hc : checkConfig Config.defaults a.ctrl.command1 = none) :
    Leads s h [.engine h, .engine h] a { a.next.next with
      ctrl := (a.ctrl.start Config.defaults a.now).touch a.now } := by
  have hread := Leads.turn (Takes.readCommand1 hlive hb hm₁)
  rw [Ctrl.closeStale_eq] at hread
  rw [← hcfg]
  refine hread.seq (.turn (.triggerCommand1 (w := a.ctrl.command1) hlive (by exact hb) (by exact hm₂) (by exact hidle) ?_
    (by exact hset) (by exact hft) (by exact hfr) (by rw [hcfg, hc])))
  rintro v t0 ⟨d, rfl⟩
  rw [hcfg, hidle]
  refine ⟨pioBit_rmwWord _ _ _ _, (storeCommand1_rmwWord _ _ _ hst).trans ?_⟩
  have hnone : (0x80000000 : Word) &&& 0x7FFFF83F = 0 := by decide
  rw [hnone, and_not_zero]
  exact BitVec.or_zero

/-- The flush that opens SEND, RECEIVE and FLUSH_FIFOS and stands inside INIT (R178), from its poll for ready to the start. -/
theorem Leads.startFlush (hm₁ : a.eng.micro? s.cfg = some (.pollTransStatus 0x40000000 0x40000000))
    (hm₂ : a.next.eng.micro? s.cfg = some (.writeFifoStatus 0xC000))
    (hidle : a.ctrl.busy = false) (hrdy : a.ctrl.rdy = true) (hs : a.ctrl.stale = false) :
    Leads s h [.engine h, .engine h] a { a.next.next with
      ctrl := { a.ctrl with flushTx := true, flushRx := true, tLastw := some a.now } } := by
  have hpoll := Leads.turn (Takes.pollTransStatus hlive hb hm₁ fun d => by
    rw [hcfg]
    exact (transStatusWord_and_rdy (p := Config.defaults) (by decide) hs d).2 hrdy)
  have hwrite := hpoll.seq (.turn (.writeFifoStatus hlive (by exact hb) (by exact hm₂) (by exact hidle)))
  rw [hcfg] at hwrite
  have hclear : ∀ c : Ctrl, c.clearErrors Config.defaults 0xC000 = c := fun c => by
    simp [Ctrl.clearErrors, w1c, Config.defaults]
  have hstart : ∀ c : Ctrl, c.startFlush Config.defaults 0xC000 = { c with flushTx := true, flushRx := true } := fun c => by
    simp [Ctrl.startFlush, Config.defaults]
  rw [hclear, hstart] at hwrite
  exact hwrite

theorem Takes.endFlush (hm : a.eng.micro? s.cfg = some (.pollFifoStatus 0xC000 0))
    (hft : a.ctrl.flushTx = false) (hfr : a.ctrl.flushRx = false) : Takes s h (.engine h) a a.next :=
  .pollFifoStatus hlive hb hm fun d => by rw [hcfg]; exact fifoStatusWord_and_flushBoth hft hfr d

end Stretches

/-- Settles O31: `storeCommand1_rmwWord` on words, `Leads.rmw` in the engine's two turns. -/
theorem rmwChangesOnlyTheNamedFields : Obligations.RmwChangesOnlyTheNamedFields := by
  refine ⟨fun stored draw clr set hst hset => ⟨(pioBit_rmwWord _ _ _ _).trans hset, storeCommand1_rmwWord _ _ _ hst⟩, ?_⟩
  intro s h clr set hcfg hr hen hidle hst hset hm₁ hm₂
  have hbusy : (s.eng.get h).busyCmd = true := State.busyCmd_of_engineEnabled hen
  have hlive := State.not_halted_of_engineEnabled hen
  obtain ⟨t, ht, hb⟩ := (Leads.rmw (a := .of s h) hcfg hlive hbusy hm₁ hm₂ hidle hst hset rfl rfl).run (Snap.of_holds h hr)
  obtain ⟨v, w, -, he⟩ := hb.eng
  exact ⟨t, ht, hb.ctrl, by rw [he]; rfl, by rw [he]; exact hbusy, hb.faults, hb.refusal⟩

end Sys2Proof.Machine
end

section
/-! INIT, FLUSH_FIFOS and the drain of RECEIVE as runs (42_polling_engine R177, R178, R182, R189). -/

namespace Sys2Proof.Machine

open Sys2Proof.Config (Params Agent Turn)

/-! ## The drain -/

section Drain

variable {s : State} {h : Handle} (hlive : s.halted (.engine h) = false)

include hlive

/-- A drain that has as many entries before it as it has bytes to read takes them all. -/
theorem Leads.drains {q : List Word} : ∀ {w : Word} {a : Snap}, a.eng.busyCmd = true → a.eng.op = .receive → a.eng.pc = 22 →
    a.ctrl.flushRx = false → a.ctrl.rxq = w :: q → a.eng.k + (q.length + 1) = a.eng.len →
    Leads s h (engineTurns h (q.length + 1)) a { a with
      ctrl := { a.ctrl with rxq := [] }
      eng := { a.eng with out := a.eng.out ++ (w :: q).map lowByte, k := a.eng.len, pc := 23 } } := by
  induction q with
  | nil =>
    intro w a hb hop hpc hf hq hk
    have hm : a.eng.micro? s.cfg = some .drain := by simp only [Engine.micro?, hpc, Engine.steps, hop]; rfl
    have hstep := Takes.drain hlive hb hm hf hq
    rw [if_neg (by simp at hk; omega), hpc] at hstep
    simp only [List.length_nil, Nat.zero_add] at hk
    rw [← hk]
    exact .turn hstep
  | cons w' q ih =>
    intro w a hb hop hpc hf hq hk
    have hm : a.eng.micro? s.cfg = some .drain := by simp only [Engine.micro?, hpc, Engine.steps, hop]; rfl
    have hstep := Takes.drain hlive hb hm hf hq
    rw [List.length_cons] at hk
    rw [if_pos (by omega)] at hstep
    have hrest := (Leads.turn hstep).seq (ih (by exact hb) (by exact hop) (by exact hpc) (by exact hf) rfl (by dsimp only; omega))
    simpa [engineTurns_succ] using hrest

/-- The drain and the return of its bytes (R182 steps 22 and 23). -/
theorem Leads.drainAndFinish {a : Snap} (hb : a.eng.busyCmd = true) (hop : a.eng.op = .receive) (hpc : a.eng.pc = 22)
    (hk : a.eng.k = 0) (hout : a.eng.out = []) (hlen : 1 ≤ a.eng.len) (hf : a.ctrl.flushRx = false)
    (hq : a.ctrl.rxq.length = a.eng.len) :
    Leads s h (engineTurns h (a.eng.len + 1)) a (Snap.finished h (.okData (a.ctrl.rxq.map lowByte)) { a with
      ctrl := { a.ctrl with rxq := [] }
      eng := { a.eng with out := a.ctrl.rxq.map lowByte, k := a.eng.len, pc := 23 } }) := by
  obtain ⟨w, q, hwq⟩ := List.exists_cons_of_length_pos (hq.symm ▸ hlen)
  have hlen' : a.eng.len = q.length + 1 := by rw [← hq, hwq, List.length_cons]
  have hdrain := Leads.drains hlive hb hop hpc hf hwq (by rw [hk, Nat.zero_add, hlen'])
  rw [hout, List.nil_append, ← hwq] at hdrain
  refine hdrain.seq (.turn (.finishData hlive (by exact hb) ?_)) ?_
  · simp only [Engine.micro?, Engine.steps, hop]
    rfl
  · rw [hlen']
    exact (List.replicate_succ' ..).symm

end Drain

/-- Settles O36: `Leads.drainAndFinish` from the state itself. -/
theorem drainReturnsTheLowBytesInOrder : Obligations.DrainReturnsTheLowBytesInOrder := by
  intro s h hr hen hop hpc hk hout hlen hf hq
  have hb : (s.eng.get h).busyCmd = true := State.busyCmd_of_engineEnabled hen
  obtain ⟨t, ht, hend⟩ := (Leads.drainAndFinish (a := .of s h) (State.not_halted_of_engineEnabled hen) hb hop hpc hk hout hlen hf
    hq).run (Snap.of_holds h hr)
  exact ⟨t, ht, hend.results, hend.busyCmd, hend.ctrl⟩

/-! ## FLUSH_FIFOS and INIT -/

/-- The word of a command decodes to it, whatever the bus layout. -/
theorem decodeCmd_of_encode {i : Instr} {c : Word} {bytes : List Byte} (hi : encode Config.defaults i = .cmd c bytes) :
    decodeCmd c bytes = .ok i := by
  have := decodeInvertsEncode Config.defaults i (by decide)
  rwa [hi] at this

/-- Settles O38: acceptance, the flush with its two completions, and the return. -/
theorem flushFifosEmptiesBothFifos : Obligations.FlushFifosEmptiesBothFifos := by
  intro s h hcfg hr hlive hidle hbusy hrdy hs
  have haccept := Leads.turn (Takes.command (s := s) (a := .of s h) (c := cmdWord 1 h 0) (bytes := []) (Engine.accept .flushFifos)
    (decodeCmd_of_encode rfl) (fun _ _ => rfl) fun t ht => exec_flushFifos_idle (ht.busyCmd.trans hidle))
  have hstart := haccept.trans (.startFlush hcfg hlive (by rfl) (by rw [hcfg]; rfl) (by rw [hcfg]; rfl) (by exact hbusy)
    (by exact hrdy) (by exact hs))
  have hflush := (hstart.trans (.turn (.flushRx (by rfl)))).trans (.turn (.flushTx (by rfl)))
  have hwait := hflush.trans (.turn (.endFlush hcfg hlive (by rfl) (by rw [hcfg]; rfl) (by rfl) (by rfl)))
  have hrun := hwait.trans (.turn (.finishOk hlive (by rfl) (by rw [hcfg]; rfl)))
  obtain ⟨t, ht, hend⟩ := hrun.run (Snap.of_holds h hr)
  exact ⟨t, ht, hend.results, hend.busyCmd, hend.faults, hend.refusal, hend.ctrl⟩

/-- Settles O37: acceptance, the first read-modify-write, the flush, the second, and the return. -/
theorem initConfiguresTheController : Obligations.InitConfiguresTheController := by
  intro s h hcfg hr hlive hidle hinit hbusy hrdy hs hst
  have hfresh : ∀ b, ((s.ctrl.get h).stale && b) = (s.ctrl.get h).stale := fun b => by rw [hs, Bool.false_and]
  have haccept := Leads.turn (Takes.command (s := s) (a := .of s h) (c := cmdWord 0 h 0) (bytes := []) (Engine.accept .init)
    (decodeCmd_of_encode rfl) (fun _ _ => rfl)
    fun t ht => exec_init_idle (ht.busyCmd.trans hidle) (ht.initialized.trans hinit))
  have hmode := haccept.trans (.rmw (clr := 0x0031003F) (set := 0x00300007) hcfg hlive (by rfl) (by rw [hcfg]; rfl)
    (by rw [hcfg]; rfl) (by exact hbusy) (by exact hst) (by decide) (by rfl) (by exact hfresh _))
  have hstart := hmode.trans (.startFlush hcfg hlive (by rfl) (by rw [hcfg]; rfl) (by rw [hcfg]; rfl) (by exact hbusy)
    (by exact hrdy) (by exact hs))
  have hflush := (hstart.trans (.turn (.flushTx (by rfl)))).trans (.turn (.flushRx (by rfl)))
  have hwait := hflush.trans (.turn (.endFlush hcfg hlive (by rfl) (by rw [hcfg]; rfl) (by rfl) (by rfl)))
  have hselect := hwait.trans (.rmw (clr := 0x0C100000) (set := 0) hcfg hlive (by rfl) (by rw [hcfg]; rfl)
    (by rw [hcfg]; rfl) (by exact hbusy) (by exact stored_rmw _ _ hst) (by decide) (by exact rmw_rmw _ _ _ _ _)
    (by exact hfresh _))
  have hrun := hselect.trans (.turn (.finishInit hlive (by rfl) (by rw [hcfg]; rfl)))
  obtain ⟨t, ht, hend⟩ := hrun.run (Snap.of_holds h hr)
  exact ⟨t, ht, hend.results, hend.initialized, hend.busyCmd, hend.faults, hend.refusal, hend.ctrl⟩

end Sys2Proof.Machine
end

section
/-! SEND and RECEIVE as runs (42_polling_engine R179 to R184): the stretches they share, and each of the two. -/

namespace Sys2Proof.Machine

open Sys2Proof.Config (Params Agent Turn)

/-! ## Where a stretch stands in a step list -/

/-- The steps of `e` after the first `k` are those of `ms`. -/
def Engine.RunsAt (p : Params) (e : Engine) (k : Nat) (ms : List Micro) : Prop :=
  ∀ i m, ms[i]? = some m → Engine.micro? p { e with pc := k + i + 1 } = some m

theorem Engine.runsAt_of_steps {p : Params} {e : Engine} {k : Nat} {ms post : List Micro}
    (hsteps : (e.steps p).drop k = ms ++ post) : e.RunsAt p k ms := by
  intro i m hm
  obtain ⟨hi, -⟩ := List.getElem?_eq_some_iff.1 hm
  change (e.steps p)[k + i]? = some m
  rw [← List.getElem?_drop, hsteps, List.getElem?_append_left hi, hm]

/-! ## Words of a transfer (R29, R35, R141) -/

theorem storeBlkSize_of_small {n : Nat} (hn : n < 2 ^ 16) :
    storeBlkSize Config.defaults (BitVec.ofNat 32 n) = BitVec.ofNat 32 n := by
  rw [storeBlkSize_defaults]
  apply BitVec.eq_of_toNat_eq
  simp only [BitVec.toNat_setWidth, BitVec.extractLsb'_toNat, BitVec.toNat_ofNat, Nat.shiftRight_zero]
  omega

theorem blockFrames_ofNat_pred {n : Nat} (h1 : 1 ≤ n) (hn : n ≤ 2 ^ 16) : blockFrames (BitVec.ofNat 32 (n - 1)) = n := by
  rw [blockFrames, BitVec.toNat_ofNat]
  omega

/-- `COMMAND1` as a transfer is prepared: 8-bit unpacked mode and one direction enabled (R180, R182). -/
def preparedCommand1 (w en : Word) : Word := (w &&& ~~~(0x3F : Word)) ||| (7 ||| en)

theorem getLsbD_preparedCommand1 (w en : Word) {k : Nat} (hk : k < 32) :
    (preparedCommand1 w en).getLsbD k = (w.getLsbD k && !(0x3F : Word).getLsbD k || ((7 : Word).getLsbD k || en.getLsbD k)) := by
  rw [← BitVec.getLsbD_or]
  exact getLsbD_rmwWord w 0x3F _ hk

/-- A prepared word is one that a trigger admits (R141). -/
theorem checkConfig_preparedCommand1 {w en : Word} (hcs : w.getLsbD 21 = true) (hlow : en.extractLsb' 0 5 = 0)
    (hpacked : en.getLsbD 5 = false) (hdir : (en.getLsbD 11 || en.getLsbD 12) = true) :
    checkConfig Config.defaults (preparedCommand1 w en) = none := by
  have hbits : (preparedCommand1 w en).extractLsb' 0 5 = 7 := by
    have hclr : (~~~(0x3F : Word)).extractLsb' 0 5 = 0 := by decide
    have hset : (7 : Word).extractLsb' 0 5 = 7 := by decide
    rw [preparedCommand1, BitVec.extractLsb'_or, BitVec.extractLsb'_or, BitVec.extractLsb'_and, hclr, hset, hlow]
    simp
  have h5 : (preparedCommand1 w en).getLsbD 5 = false := by
    rw [getLsbD_preparedCommand1 _ _ (by decide), hpacked]
    simp
  have h21 : (preparedCommand1 w en).getLsbD 21 = true := by
    rw [getLsbD_preparedCommand1 _ _ (by decide), hcs]
    rfl
  have hen : ((preparedCommand1 w en).getLsbD 11 || (preparedCommand1 w en).getLsbD 12) = true := by
    rw [getLsbD_preparedCommand1 _ _ (by decide), getLsbD_preparedCommand1 _ _ (by decide), Bool.or_eq_true]
    rw [Bool.or_eq_true] at hdir
    exact hdir.imp (fun h => by simp [h]) (fun h => by simp [h])
  rw [checkConfig_defaults, if_neg (by rw [hbits]; decide), if_neg (by rw [h5]; decide), if_neg (by rw [h21]; decide),
    if_neg (by rw [← Bool.not_or, hen]; decide)]

/-- The second read-modify-write of the preparation adds the direction to the mode. -/
theorem preparedCommand1_enable (w : Word) {en : Word} (hen : en &&& 0x7FFFF83F = en) :
    (preparedCommand1 w 0 &&& ~~~(0 : Word)) ||| (en &&& 0x7FFFF83F) = preparedCommand1 w en := by
  rw [hen, and_not_zero, preparedCommand1, preparedCommand1, BitVec.or_assoc]
  rfl

theorem stored_preparedCommand1 {w en : Word} (hst : w &&& ~~~(0x7FFFF83F : Word) = 0) (hen : en &&& 0x7FFFF83F = en) :
    preparedCommand1 w en &&& ~~~(0x7FFFF83F : Word) = 0 := by
  rw [← preparedCommand1_enable w hen]
  exact stored_rmw 0 en (stored_rmw 0x3F 7 hst)

/-- The configuration a trigger latches. -/
theorem latch_preparedCommand1 (w en : Word) :
    Latch.mk ((preparedCommand1 w en).getLsbD 11) ((preparedCommand1 w en).getLsbD 12) ((preparedCommand1 w en).getLsbD 16) =
      ⟨w.getLsbD 11 || en.getLsbD 11, w.getLsbD 12 || en.getLsbD 12, w.getLsbD 16 || en.getLsbD 16⟩ := by
  have hbit {k : Nat} (hk : k < 32) (hm : (0x3F : Word).getLsbD k = false) (h7 : (7 : Word).getLsbD k = false) :
      (preparedCommand1 w en).getLsbD k = (w.getLsbD k || en.getLsbD k) := by
    rw [getLsbD_preparedCommand1 _ _ hk, hm, h7, Bool.not_false, Bool.and_true, Bool.false_or]
  rw [hbit (by decide) (by decide) (by decide), hbit (by decide) (by decide) (by decide),
    hbit (by decide) (by decide) (by decide)]

theorem clearRdy_defaults (c : Ctrl) : c.clearRdy Config.defaults 0x40000000 = { c with rdy := false } := by
  simp [Ctrl.clearRdy, w1c, Config.defaults]

section Stretches

variable {s : State} {h : Handle} {a : Snap} {e : Engine} (hcfg : s.cfg = Config.defaults)
  (hlive : s.halted (.engine h) = false) (hb : e.busyCmd = true)

include hcfg hlive hb

/-- Steps 1 to 5 of a transfer (R180, R182): both FIFOs empty, 8-bit unpacked mode. -/
theorem Leads.flushAndMode (he : a.eng = { e with pc := 1 })
    (hruns : e.RunsAt s.cfg 0 [.pollTransStatus 0x40000000 0x40000000, .writeFifoStatus 0xC000,
      .pollFifoStatus 0xC000 0, .readCommand1, .writeCommand1 0x3F 7])
    (hidle : a.ctrl.busy = false) (hrdy : a.ctrl.rdy = true)
    (hs : a.ctrl.stale = false) (hst : a.ctrl.command1 &&& ~~~(0x7FFFF83F : Word) = 0) :
    Leads s h ([.engine h, .engine h, .flushTx h, .flushRx h] ++ engineTurns h 3) a { a with
        eng := { e with pc := 6 }
        locals := fun _ _ => True
        ctrl := { a.ctrl with
          command1 := preparedCommand1 a.ctrl.command1 0
          txq := [], rxq := [], flushTx := false, flushRx := false, tLastw := some a.now } } := by
  obtain ⟨a, rfl⟩ : ∃ b : Snap, a = { b with eng := { e with pc := 1 } } := ⟨a, by rw [← he]⟩
  have hfresh : ∀ b, (a.ctrl.stale && b) = a.ctrl.stale := fun b => by rw [hs, Bool.false_and]
  have hflush := (((Leads.startFlush (a := { a with eng := { e with pc := 1 } }) hcfg hlive hb (hruns 0 _ rfl) (hruns 1 _ rfl)
    hidle hrdy hs).trans (.turn (.flushTx (by rfl)))).trans (.turn (.flushRx (by rfl)))).trans
    (.turn (.endFlush hcfg hlive (by exact hb) (by exact hruns 2 _ rfl) (by rfl) (by rfl)))
  exact hflush.trans (.rmw (clr := 0x3F) (set := 7) (w := preparedCommand1 a.ctrl.command1 0) hcfg hlive (by exact hb)
    (by exact hruns 3 _ rfl) (by exact hruns 4 _ rfl) (by exact hidle) (by exact hst) (by decide) (by rfl) (by exact hfresh _))

/-- Steps 6 to 9 of a transfer of `n` bytes (R180, R182): the block size set, ready cleared, the direction enabled. -/
theorem Leads.sizeAndEnable {n : Nat} {w en : Word} (he : a.eng = { e with pc := 6 })
    (hruns : e.RunsAt s.cfg 5 [.writeBlkSize (BitVec.ofNat 32 (n - 1)),
      .writeTransStatus 0x40000000, .readCommand1, .writeCommand1 0 en])
    (hn : n ≤ 2 ^ 16) (hidle : a.ctrl.busy = false) (hs : a.ctrl.stale = false)
    (hst : a.ctrl.command1 &&& ~~~(0x7FFFF83F : Word) = 0) (hset : en.getLsbD 31 = false)
    (hw : (a.ctrl.command1 &&& ~~~(0 : Word)) ||| (en &&& 0x7FFFF83F) = w) :
    Leads s h (engineTurns h 4) a { a with
        eng := { e with pc := 10 }
        locals := fun _ _ => True
        ctrl := { a.ctrl with
          command1 := w, rdy := false, blkSize := BitVec.ofNat 32 (n - 1), tLastw := some a.now } } := by
  obtain ⟨a, rfl⟩ : ∃ b : Snap, a = { b with eng := { e with pc := 6 } } := ⟨a, by rw [← he]⟩
  have hfresh : ∀ b, (a.ctrl.stale && b) = a.ctrl.stale := fun b => by rw [hs, Bool.false_and]
  have hsize := Leads.turn (Takes.writeBlkSize (a := { a with eng := { e with pc := 6 } }) hlive hb (hruns 0 _ rfl) hidle)
  rw [hcfg, Ctrl.setBlkSize, storeBlkSize_of_small (n := n - 1) (by omega)] at hsize
  have hready := hsize.trans (.turn (.writeTransStatus (v := 0x40000000) hlive (by exact hb) (by exact hruns 1 _ rfl)))
  rw [hcfg, clearRdy_defaults] at hready
  exact hready.trans (.rmw (clr := 0) (set := en) hcfg hlive (by exact hb) (by exact hruns 2 _ rfl)
    (by exact hruns 3 _ rfl) (by exact hidle) (by exact hst) (by exact hset) (by exact hw) (by exact hfresh _))

/-- Settle and trigger (R180 steps 11 to 14, R182 steps 10 to 13), after `k` steps. -/
theorem Leads.settleAndTrigger {k : Nat} {lat : Latch} {n : Nat}
    (he : a.eng = { e with pc := k + 1 })
    (hruns : e.RunsAt s.cfg k [.delayStart, .delayWait 2, .readCommand1, .writeCommand1 0 0x80000000])
    (hidle : a.ctrl.busy = false) (hst : a.ctrl.command1 &&& ~~~(0x7FFFF83F : Word) = 0) (hlast : a.ctrl.tLastw = some a.now)
    (hft : a.ctrl.flushTx = false) (hfr : a.ctrl.flushRx = false) (hc : checkConfig Config.defaults a.ctrl.command1 = none)
    (hlat : Latch.mk (a.ctrl.command1.getLsbD 11) (a.ctrl.command1.getLsbD 12) (a.ctrl.command1.getLsbD 16) = lat)
    (hn : blockFrames a.ctrl.blkSize = n) :
    Leads s h (.engine h :: ([.time, .time] ++ engineTurns h 3)) a { a with
        eng := { e with pc := k + 5 }
        locals := fun _ _ => True
        now := a.now + 2
        ctrl := { a.ctrl with
          busy := true, framesLeft := n, lat := lat, stale := true, tTrig := a.now + 2, tLastw := some (a.now + 2) } } := by
  subst hlat hn
  have hsettled : a.ctrl.settled (a.now + 2) = true := by
    rw [Ctrl.settled_iff, hlast]
    rintro t ⟨⟩
    omega
  obtain ⟨a, rfl⟩ : ∃ b : Snap, a = { b with eng := { e with pc := k + 1 } } := ⟨a, by rw [← he]⟩
  have hdelay := Leads.delay (a := { a with eng := { e with pc := k + 1 } }) (n := 2) hlive hb (hruns 0 _ rfl) (hruns 1 _ rfl)
    (by decide)
  exact hdelay.trans (.trigger hcfg hlive (by exact hb) (by exact hruns 2 _ rfl) (by exact hruns 3 _ rfl) (by exact hidle)
    (by exact hst) (by exact hsettled) (by exact hft) (by exact hfr) (by exact hc))

/-- The trigger delay, the ready-wait and the direction off (R180 steps 15 to 20, R182 steps 14 to 19), after `k` steps. -/
theorem Leads.awaitAndDisable {k : Nat} {en : Word}
    (he : a.eng = { e with pc := k + 1 })
    (hruns : e.RunsAt s.cfg k [.delayStart, .delayWait 1, .dummyRead, .pollTransStatus 0x40000000 0x40000000,
      .readCommand1, .writeCommand1 en 0])
    (hidle : a.ctrl.busy = false) (hrdy : a.ctrl.rdy = true) (htrig : a.ctrl.tTrig ≤ a.now)
    (hst : a.ctrl.command1 &&& ~~~(0x7FFFF83F : Word) = 0) :
    Leads s h (.engine h :: .time :: engineTurns h 5) a { a with
        eng := { e with pc := k + 7 }
        locals := fun _ _ => True
        now := a.now + 1
        ctrl := { a.ctrl with command1 := a.ctrl.command1 &&& ~~~en, stale := false, tLastw := some (a.now + 1) } } := by
  have hlate : ∀ b, (b && decide (a.now + 1 - a.ctrl.tTrig < 1)) = false := fun b => by
    rw [decide_eq_false (by omega), Bool.and_false]
  obtain ⟨a, rfl⟩ : ∃ b : Snap, a = { b with eng := { e with pc := k + 1 } } := ⟨a, by rw [← he]⟩
  have hdelay := (Leads.delay (a := { a with eng := { e with pc := k + 1 } }) (n := 1) hlive hb (hruns 0 _ rfl) (hruns 1 _ rfl)
    (by decide)).trans (.turn (.dummyRead hlive (by exact hb) (by exact hruns 2 _ rfl)))
  rw [Ctrl.closeStale_eq] at hdelay
  have hpoll := hdelay.trans (.turn (.pollTransStatus (mask := 0x40000000) (eq := 0x40000000) hlive (by exact hb)
    (by exact hruns 3 _ rfl) fun d => by
      rw [hcfg]
      exact (transStatusWord_and_rdy (p := Config.defaults) (by decide) (hlate _) d).2 hrdy))
  exact hpoll.trans (.rmw (clr := en) (set := 0) hcfg hlive (by exact hb) (by exact hruns 4 _ rfl) (by exact hruns 5 _ rfl)
    (by exact hidle) (by exact hst) (by decide) (by exact BitVec.or_zero) (by exact hlate _))

end Stretches

end Sys2Proof.Machine
end

section
/-! SEND and RECEIVE up to the trigger (42_polling_engine R179 to R182). -/

namespace Sys2Proof.Machine

open Sys2Proof.Config (Params Agent Turn)

theorem Ctrl.pushTx_of_empty {c : Ctrl} (hq : c.txq = []) (w : Word) : c.pushTx Config.defaults w = { c with txq := [w] } := by
  rw [Ctrl.pushTx, hq]
  rfl

/-- Settles O39: acceptance, the preparation with TX enabled, the word into the TX FIFO, the trigger. -/
theorem sendTriggersABlockOfFour : Obligations.SendTriggersABlockOfFour := by
  intro s h b0 b1 b2 b3 c e hcfg hr hlive hidle hinit hbusy hrdy hs hst hcs
  let e' : Engine := { e with txbuf := ⟨b0, b1, b2, b3⟩, busyCmd := true, op := .send }
  have hruns {k ms} (post) (hd : (sendSteps Config.defaults (pack ⟨b0, b1, b2, b3⟩)).drop k = ms ++ post) :
      e'.RunsAt s.cfg k ms := Engine.runsAt_of_steps (by rw [hcfg]; exact hd)
  have hlat : _ = Latch.mk true (c.command1.getLsbD 12) (c.command1.getLsbD 16) :=
    (latch_preparedCommand1 c.command1 0x800).trans (by simp)
  have haccept : Leads s h [.host (cmdWord 2 h 4) [b0, b1, b2, b3]] (.of s h) { Snap.of s h with eng := { e' with pc := 1 } } :=
    .turn (.command (fun e => Engine.accept .send { e with txbuf := ⟨b0, b1, b2, b3⟩ }) (decodeCmd_of_encode rfl)
      (fun _ _ => rfl) fun t ht => exec_send_four (ht.busyCmd.trans hidle) (ht.initialized.trans hinit) b0 b1 b2 b3)
  have hmode := haccept.trans (.flushAndMode (e := e') hcfg hlive rfl rfl (hruns _ rfl) (by exact hbusy) (by exact hrdy)
    (by exact hs) (by exact hst))
  have hsize := hmode.trans (.sizeAndEnable (e := e') (n := 4) hcfg hlive rfl rfl (hruns _ rfl) (by decide) (by exact hbusy)
    (by exact hs) (by exact stored_preparedCommand1 hst rfl) (by decide) (by exact preparedCommand1_enable _ (en := 0x800) rfl))
  have hpush := hsize.trans (.turn (.writeTxFifo hlive (by rfl) (hruns (k := 9) (ms := [.writeTxFifo _]) _ rfl 0 _ rfl) (by rfl)))
  rw [hcfg, Ctrl.pushTx_of_empty rfl] at hpush
  have hrun := hpush.trans (.settleAndTrigger (e := e') (k := 10) (n := 4) hcfg hlive rfl rfl (hruns _ rfl) (by exact hbusy)
    (by exact stored_preparedCommand1 hst rfl) (by rfl) (by rfl) (by rfl)
    (by exact checkConfig_preparedCommand1 hcs rfl rfl rfl) (by exact hlat) (by rfl))
  obtain ⟨t, ht, hend⟩ := hrun.run (Snap.of_holds h hr)
  exact ⟨t, ht, hend.engLocal Engine.pc fun _ _ _ => rfl, hend.busyCmd, hend.engLocal Engine.op fun _ _ _ => rfl, hend.now,
    hend.results, hend.faults, hend.refusal, hend.ctrl⟩

/-- Settles O41: acceptance, the preparation with RX enabled, the trigger. -/
theorem receiveTriggersABlockOfItsLength : Obligations.ReceiveTriggersABlockOfItsLength := by
  intro s h len c e hcfg hr hlen1 hlen64 hlive hidle hinit hbusy hrdy hs hst hcs
  let e' : Engine := { e with len := len.toNat, busyCmd := true, op := .receive }
  have hruns {k ms} (post) (hd : (receiveSteps Config.defaults len.toNat).drop k = ms ++ post) :
      e'.RunsAt s.cfg k ms := Engine.runsAt_of_steps (by rw [hcfg]; exact hd)
  have hlat : _ = Latch.mk (c.command1.getLsbD 11) true (c.command1.getLsbD 16) :=
    (latch_preparedCommand1 c.command1 0x1000).trans (by simp)
  have haccept : Leads s h [.host (cmdWord 3 h len) []] (.of s h) { Snap.of s h with eng := { e' with pc := 1 } } :=
    .turn (.command (fun e => Engine.accept .receive { e with len := len.toNat }) (decodeCmd_of_encode rfl) (fun _ _ => rfl)
      fun t ht => exec_receive_accepted (ht.busyCmd.trans hidle) (ht.initialized.trans hinit)
        ⟨hlen1, by rw [ht.cfg, hcfg]; exact hlen64⟩)
  have hmode := haccept.trans (.flushAndMode (e := e') hcfg hlive rfl rfl (hruns _ rfl) (by exact hbusy) (by exact hrdy)
    (by exact hs) (by exact hst))
  have hsize := hmode.trans (.sizeAndEnable (e := e') (n := len.toNat) hcfg hlive rfl rfl (hruns _ rfl) (by omega)
    (by exact hbusy) (by exact hs) (by exact stored_preparedCommand1 hst rfl) (by decide)
    (by exact preparedCommand1_enable _ (en := 0x1000) rfl))
  have hrun := hsize.trans (.settleAndTrigger (e := e') (k := 9) (n := len.toNat) hcfg hlive rfl rfl (hruns _ rfl)
    (by exact hbusy) (by exact stored_preparedCommand1 hst rfl) (by rfl) (by rfl) (by rfl)
    (by exact checkConfig_preparedCommand1 hcs rfl rfl rfl) (by exact hlat) (by exact blockFrames_ofNat_pred hlen1 (by omega)))
  obtain ⟨t, ht, hend⟩ := hrun.run (Snap.of_holds h hr)
  exact ⟨t, ht, hend.engLocal Engine.pc fun _ _ _ => rfl, hend.busyCmd, hend.engLocal Engine.op fun _ _ _ => rfl,
    hend.engLocal Engine.len fun _ _ _ => rfl, hend.now, hend.results, hend.faults, hend.refusal, hend.ctrl⟩

end Sys2Proof.Machine
end

section
/-! SEND and RECEIVE after the block is shifted (42_polling_engine R180, R182 to R184). -/

namespace Sys2Proof.Machine

open Sys2Proof.Config (Params Agent Turn)

/-- The clear of all five error flags starts no flush (R183). -/
theorem clearErrAll_defaults (c : Ctrl) :
    (c.clearErrors Config.defaults (mErrAll Config.defaults)).startFlush Config.defaults (mErrAll Config.defaults) =
      { c with err := false, txOvf := false, txUnf := false, rxOvf := false, rxUnf := false } := by
  rw [mErrAll_defaults]
  simp [Ctrl.clearErrors, Ctrl.startFlush, w1c, Config.defaults]

section Errors

variable {s : State} {h : Handle} {a : Snap} (hcfg : s.cfg = Config.defaults) (hlive : s.halted (.engine h) = false)
  (hb : a.eng.busyCmd = true)

include hcfg

theorem errWord_eq_zero (herr : a.ctrl.err = false) (d : Word) : fifoStatusWord s.cfg a.ctrl d &&& mErr s.cfg = 0 := by
  rw [hcfg, fifoStatusWord_and_err, herr]

theorem errWord_ne_zero (herr : a.ctrl.err = true) (d : Word) : fifoStatusWord s.cfg a.ctrl d &&& mErr s.cfg ≠ 0 := by
  rw [hcfg, Ne, fifoStatusWord_and_err, herr]
  decide

include hlive hb

theorem Takes.failWithFlagsCleared (hm : a.eng.micro? s.cfg = some .clearErrAndFail) (hidle : a.ctrl.busy = false) :
    Takes s h (.engine h) a (Snap.finished h .transferError { a with ctrl := { a.ctrl with
      err := false, txOvf := false, txUnf := false, rxOvf := false, rxUnf := false, tLastw := some a.now } }) := by
  have hfail := Takes.clearErrAndFail hlive hb hm (by rw [hidle, Bool.and_false])
  rw [hcfg, clearErrAll_defaults] at hfail
  exact hfail

end Errors

theorem Engine.eq_at_pc {e : Engine} {n : Nat} (hpc : e.pc = n) : e = { e with pc := n } := by rw [← hpc]

/-- Settles O40: the wait and the transmitter off, then the error check, and the clear when it fails. -/
theorem sendEndsByItsErrorCheck : Obligations.SendEndsByItsErrorCheck := by
  intro s h c e hcfg hr hen hop hpc hidle hrdy htrig hst ended
  have hb : e.busyCmd = true := State.busyCmd_of_engineEnabled hen
  have hlive := State.not_halted_of_engineEnabled hen
  have hruns {k ms} (post) (hd : (sendSteps Config.defaults (pack e.txbuf)).drop k = ms ++ post) : e.RunsAt s.cfg k ms :=
    Engine.runsAt_of_steps (by rw [hcfg, Engine.steps, hop]; exact hd)
  have hwait := Leads.awaitAndDisable (a := .of s h) (e := e) (k := 14) hcfg hlive hb (Engine.eq_at_pc hpc) (hruns _ rfl) hidle
    hrdy htrig hst
  have hcheck := hruns (k := 20) (ms := [.checkErrReturn]) _ rfl 0 _ rfl
  refine ⟨fun herr => ?_, fun herr => ?_⟩
  · have hrun := hwait.trans (.turn (.checkErrReturn_ok hlive (by exact hb) (by exact hcheck)
      (by exact errWord_eq_zero hcfg herr)))
    obtain ⟨t, ht, hend⟩ := hrun.run (Snap.of_holds h hr)
    exact ⟨t, ht, hend.results, hend.busyCmd, hend.faults, hend.refusal, hend.ctrl⟩
  · have hrun := (hwait.trans (.turn (.checkErrReturn_failed hlive (by exact hb) (by exact hcheck)
      (by exact errWord_ne_zero hcfg herr)))).trans (.turn (.failWithFlagsCleared hcfg hlive (by exact hb)
      (by exact hruns (k := 21) (ms := [.clearErrAndFail]) _ rfl 0 _ rfl) (by exact hidle)))
    obtain ⟨t, ht, hend⟩ := hrun.run (Snap.of_holds h hr)
    exact ⟨t, ht, hend.results, hend.busyCmd, hend.faults, hend.refusal, hend.ctrl⟩

/-- Settles O42: the wait and the receiver off, then the error check, and the drain or the clear. -/
theorem receiveEndsByItsErrorCheck : Obligations.ReceiveEndsByItsErrorCheck := by
  intro s h c e hcfg hr hen hop hpc hidle hrdy htrig hst ended
  have hb : e.busyCmd = true := State.busyCmd_of_engineEnabled hen
  have hlive := State.not_halted_of_engineEnabled hen
  have hruns {k ms} (post) (hd : (receiveSteps Config.defaults e.len).drop k = ms ++ post) : e.RunsAt s.cfg k ms :=
    Engine.runsAt_of_steps (by rw [hcfg, Engine.steps, hop]; exact hd)
  have hwait := Leads.awaitAndDisable (a := .of s h) (e := e) (k := 13) hcfg hlive hb (Engine.eq_at_pc hpc) (hruns _ rfl) hidle
    hrdy htrig hst
  have hcheck := hruns (k := 19) (ms := [.checkErrDrain 22]) _ rfl 0 _ rfl
  refine ⟨fun herr hf hlen hq => ?_, fun herr => ?_⟩
  · have hrun := (hwait.trans (.turn (.checkErrDrain_ok hlive (by exact hb) (by exact hcheck)
      (by exact errWord_eq_zero hcfg herr)))).trans (.drainAndFinish hlive (by exact hb) (by exact hop) (by rfl) (by rfl) (by rfl)
      (by exact hlen) (by exact hf) (by exact hq))
    obtain ⟨t, ht, hend⟩ := hrun.run (Snap.of_holds h hr)
    have hturns : [Turn.engine h, .time] ++ engineTurns h (6 + e.len + 1) =
        .engine h :: .time :: engineTurns h 5 ++ [.engine h] ++ engineTurns h (e.len + 1) := by
      rw [Nat.add_assoc, engineTurns, List.replicate_add]
      rfl
    exact ⟨t, hturns ▸ ht, hend.results, hend.busyCmd, hend.faults, hend.refusal, hend.ctrl⟩
  · have hrun := (hwait.trans (.turn (.checkErrDrain_failed hlive (by exact hb) (by exact hcheck)
      (by exact errWord_ne_zero hcfg herr)))).trans (.turn (.failWithFlagsCleared hcfg hlive (by exact hb)
      (by exact hruns (k := 20) (ms := [.clearErrAndFail]) _ rfl 0 _ rfl) (by exact hidle)))
    obtain ⟨t, ht, hend⟩ := hrun.run (Snap.of_holds h hr)
    exact ⟨t, ht, hend.results, hend.busyCmd, hend.faults, hend.refusal, hend.ctrl⟩

end Sys2Proof.Machine
end

section
/-! Why no SEND succeeds (90_conflicts C1), first part: while an engine runs, only the controller itself and Time act on its
controller, and they keep `SendFails`. -/

namespace Sys2Proof.Machine

open Sys2Proof.Config (Params Agent Turn)

/-! ## The accesses of the others are refused (R220) -/

theorem exec_ctrl_of_foreign {i : Instr} {h : Handle} {s t : State} (hacc : s.mayAccess h = false)
    (ht : exec i s = .next t) : t.ctrl.get h = s.ctrl.get h := by
  cases hc : accessedCtrl i with
  | some k =>
    by_cases hk : h = k
    · subst hk
      cases (exec_refused hc hacc).symm.trans ht
      rfl
    · exact ((exec_access_effect hc ht).onlyInstance h hk).1
  | none =>
    cases hm : commandEngine i with
    | some k => rw [(exec_command_effect hm ht).ctrl]
    | none => rw [(exec_timeBase_effect hc hm ht).ctrl]

/-- While engine `h` runs, no turn but its own changes controller `h` otherwise than by a step of the controller. -/
theorem takeTurn_ctrl_of_running {u : Turn} {h : Handle} {s t : State} (hb : (s.eng.get h).busyCmd = true)
    (hu : u ≠ .engine h) (hact : s.actor = turnAgent u) (ht : takeTurn u s = .next t) :
    CtrlOwn s.cfg h (s.ctrl.get h) (t.ctrl.get h) := by
  have foreign {a : Agent} (ha : s.actor = a) (hne : a ≠ .engine h) : s.mayAccess h = false :=
    State.mayAccess_eq_false hb (by rw [ha]; exact hne)
  cases u with
  | engine k =>
    have hk : h ≠ k := fun hk => hu (hk ▸ rfl)
    rw [(engineStep_onlyInstance ht h hk).1]
    exact .same
  | frame k => cases ht; exact frameStep_ctrl k s h
  | complete k => cases ht; exact completeStep_ctrl k s h
  | flushTx k => cases ht; exact flushTxStep_ctrl k s h
  | flushRx k => cases ht; exact flushRxStep_ctrl k s h
  | time => cases ht; exact .same
  | host c bytes =>
    obtain rfl | ⟨i, -, hi⟩ | ⟨v, -, rfl⟩ := hostStep_cases ht
    · exact .same
    · rw [exec_ctrl_of_foreign (foreign hact nofun) hi]; exact .same
    · rw [State.raiseAs_ctrl]; exact .same
  | master m a =>
    obtain ⟨-, rfl⟩ | ⟨i, -, hi⟩ | ⟨v, -, rfl⟩ := masterStep_cases ht
    · exact .same
    · rw [exec_ctrl_of_foreign (foreign hact nofun) hi]; exact .same
    · rw [State.raise_ctrl]; exact .same

/-! ## `SendFails` of one controller and engine -/

/-- `SendFails` says what it says of one controller and one engine. -/
def SendAt (p : Params) (tmr : TimeBase) (now : Nat) (c : Ctrl) (e : Engine) : Prop :=
  SendFails .spi1 { State.reset with cfg := p, ctrl := .all c, eng := .all e, tmr := tmr, now := now }

theorem sendFails_iff (h : Handle) (s : State) : SendFails h s ↔ SendAt s.cfg s.tmr s.now (s.ctrl.get h) (s.eng.get h) := Iff.rfl

section SendAt

variable {p : Params} {tmr : TimeBase} {now : Nat} {h : Handle} {c d : Ctrl} {e : Engine}

theorem sendAt_of_not_sending (hn : e.busyCmd = false ∨ e.op ≠ .send) : SendAt p tmr now c e := by
  intro hb hop
  obtain hn | hn := hn
  · exact absurd hb (ne_true_of_eq_false hn)
  · exact absurd hop hn

/-- Only from step 3 to step 21 is there something to say. -/
theorem sendAt_of_pc (hpc : e.pc < 3 ∨ 21 < e.pc) : SendAt p tmr now c e := by
  intro _ _
  change e.pc < 3 ∨ 21 < e.pc at hpc
  split
  all_goals first
    | trivial
    | (rename_i heq; change e.pc = _ at heq; omega)

/-! ## Steps of the controller itself -/

/-- An idle controller's own steps empty its FIFOs, and nothing else. -/
theorem CtrlOwn.idle (hown : CtrlOwn p h c d) (hb : c.busy = false) :
    ∃ tq rq ft fr, d = { c with txq := tq, rxq := rq, flushTx := ft, flushRx := fr } := by
  cases hown with
  | same => exact ⟨_, _, _, _, rfl⟩
  | frame i he => simp [Ctrl.frameEnabled, hb] at he
  | complete he => simp [Ctrl.completeEnabled, hb] at he
  | endFlushTx hf => exact ⟨_, _, _, _, rfl⟩
  | endFlushRx hf => exact ⟨_, _, _, _, rfl⟩

theorem CtrlOwn.idle_flushing (hown : CtrlOwn p h c d) (hb : c.busy = false) (hf : c.flushTx = true ∨ c.txq = []) :
    d.flushTx = true ∨ d.txq = [] := by
  cases hown with
  | same => exact hf
  | frame i he => simp [Ctrl.frameEnabled, hb] at he
  | complete he => simp [Ctrl.completeEnabled, hb] at he
  | endFlushTx => exact .inr rfl
  | endFlushRx => exact hf

/-- Without a TX flush pending the TX FIFO stays too. -/
theorem CtrlOwn.idle_unflushed (hown : CtrlOwn p h c d) (hb : c.busy = false) (hf : c.flushTx = false) :
    ∃ rq fr, d = { c with rxq := rq, flushRx := fr } := by
  cases hown with
  | same => exact ⟨_, _, rfl⟩
  | frame i he => simp [Ctrl.frameEnabled, hb] at he
  | complete he => simp [Ctrl.completeEnabled, hb] at he
  | endFlushTx hf' => rw [hf] at hf'; cases hf'
  | endFlushRx => exact ⟨_, _, rfl⟩

theorem CtrlOwn.of_sendEmpty (hown : CtrlOwn p h c d) (hc : SendEmpty c) : ∃ rq fr, d = { c with rxq := rq, flushRx := fr } := by
  obtain ⟨hb, hf, -⟩ := hc
  exact hown.idle_unflushed hb hf

/-- A frame of a block that has too few entries, or the completion, leaves it so: ERR comes with the second frame. -/
theorem SendShifting.own (hS : SendShifting c now) (hown : CtrlOwn p h c d) : SendShifting d now := by
  obtain ⟨htrig, ⟨hbusy, hft, hrdy, hlat, hleft⟩ | ⟨hidle, herr⟩⟩ := hS
  · cases hown with
    | same => exact ⟨htrig, .inl ⟨hbusy, hft, hrdy, hlat, hleft⟩⟩
    | frame i he =>
      refine ⟨by simpa using htrig, .inl ⟨by simpa using hbusy, by simpa using hft, by simpa using hrdy, by simpa using hlat, ?_⟩⟩
      rw [Ctrl.frame_framesLeft, Ctrl.frame_txq, Ctrl.frame_err, if_pos hlat, hlat]
      obtain ⟨hfour, hone⟩ | ⟨hthree, hnil⟩ | ⟨htwo, herr⟩ := hleft
      · exact .inr (.inl ⟨by omega, List.eq_nil_of_length_eq_zero (by rw [List.length_tail, hone])⟩)
      · exact .inr (.inr ⟨by omega, by simp [hnil]⟩)
      · exact .inr (.inr ⟨by omega, by simp [herr]⟩)
    | complete he =>
      have hzero : c.framesLeft = 0 := by simpa using (Bool.and_eq_true_iff.1 he).2
      refine ⟨htrig, .inr ⟨rfl, ?_⟩⟩
      obtain ⟨hfour, -⟩ | ⟨hthree, -⟩ | ⟨-, herr⟩ := hleft
      · omega
      · omega
      · exact herr
    | endFlushTx hf => rw [hft] at hf; cases hf
    | endFlushRx hf => exact ⟨htrig, .inl ⟨hbusy, hft, hrdy, hlat, hleft⟩⟩
  · obtain ⟨tq, rq, ft, fr, rfl⟩ := hown.idle hidle
    exact ⟨htrig, .inr ⟨hidle, herr⟩⟩

theorem SendShifting.later {now' : Nat} (hS : SendShifting c now) (hle : now ≤ now') : SendShifting c now' :=
  ⟨hS.trig.trans hle, hS.run⟩

theorem CtrlOwn.stale_eq (hown : CtrlOwn p h c d) : d.stale = c.stale := by
  cases hown <;> simp

theorem CtrlOwn.tTrig_eq (hown : CtrlOwn p h c d) : d.tTrig = c.tTrig := by
  cases hown <;> simp

/-- The controller's steps and Time keep what is said of each step of a SEND. -/
theorem SendAt.own {tmr' : TimeBase} {now' : Nat} (hS : SendAt p tmr now c e) (hown : CtrlOwn p h c d)
    (hcntr : tmr'.cntr0 = tmr.cntr0) (hle : now ≤ now') : SendAt p tmr' now' d e := by
  by_cases hpc : e.pc < 3 ∨ 21 < e.pc
  · exact sendAt_of_pc hpc
  intro hb hop
  have hs := hS hb hop
  clear hS
  obtain ⟨busyCmd, op, pc, initialized, txbuf, len, k, out, t0, scratch, result⟩ := e
  dsimp only at hpc
  obtain rfl | hpc | hpc | hpc | rfl | rfl | rfl | rfl | hpc : pc = 3 ∨ (pc = 4 ∨ pc = 6) ∨
      (pc = 5 ∨ pc = 7 ∨ pc = 8 ∨ pc = 9 ∨ pc = 10) ∨ (pc = 11 ∨ pc = 12 ∨ pc = 13 ∨ pc = 14) ∨ pc = 15 ∨ pc = 16 ∨
      pc = 17 ∨ pc = 18 ∨ (pc = 19 ∨ pc = 20 ∨ pc = 21) := by clear hs; omega
  · obtain ⟨hidle, hf⟩ := hs
    obtain ⟨tq, rq, ft, fr, rfl⟩ := hown.idle hidle
    exact ⟨hidle, hown.idle_flushing hidle hf⟩
  · obtain rfl | rfl := hpc
    all_goals
      obtain ⟨rq, fr, rfl⟩ := hown.of_sendEmpty hs
      exact hs
  · obtain rfl | rfl | rfl | rfl | rfl := hpc
    all_goals
      have ⟨hempty, _⟩ := hs
      obtain ⟨rq, fr, rfl⟩ := hown.of_sendEmpty hempty
      exact hs
  · obtain rfl | rfl | rfl | rfl := hpc
    all_goals
      have ⟨hidle, _, hf, _⟩ := hs
      obtain ⟨rq, fr, rfl⟩ := hown.idle_unflushed hidle hf
      exact hs
  · exact (SendShifting.own hs hown).later hle
  · obtain ⟨hshift, n, htrig, hn, ht0⟩ := hs
    refine ⟨(hshift.own hown).later hle, n, hown.tTrig_eq.trans_le htrig, hn.trans hle, ht0.trans ?_⟩
    exact congrArg (· + BitVec.ofNat 32 n) hcntr.symm
  · obtain ⟨hshift, htrig⟩ := hs
    exact ⟨(hshift.own hown).later hle, (congrArg (· + 1) hown.tTrig_eq).trans_le (htrig.trans hle)⟩
  · obtain ⟨hshift, hstale⟩ := hs
    exact ⟨(hshift.own hown).later hle, hown.stale_eq.trans hstale⟩
  · obtain rfl | rfl | rfl := hpc
    all_goals
      have ⟨hidle, _⟩ := hs
      obtain ⟨tq, rq, ft, fr, rfl⟩ := hown.idle hidle
      exact hs

end SendAt

end Sys2Proof.Machine
end

section
/-! Why no SEND succeeds (90_conflicts C1), second part: each step of the SEND itself keeps `SendFails`, and only the last one,
which returns Transfer Error, ends it (42_polling_engine R180, R183). -/

namespace Sys2Proof.Machine

open Sys2Proof.Config (Params Agent Turn)

/-! ## One engine turn from a given state -/

/-- Controller and engine `h` of `s`, `scratch` and `t0` included. -/
def Snap.exact (s : State) (h : Handle) : Snap :=
  { Snap.of s h with locals := fun v w => v = (s.eng.get h).scratch ∧ w = (s.eng.get h).t0 }

theorem Snap.exact_holds {s : State} (h : Handle) (hr : s.refusal = none) : (Snap.exact s h).Holds s h s :=
  ⟨rfl, hr, rfl, rfl, rfl, (PerHandle.set_get_self _ _).symm, ⟨_, _, ⟨rfl, rfl⟩, rfl⟩, rfl⟩

/-- A poll's read leads on, or leaves the engine where it is. -/
theorem Snap.Holds.pollNext_cases {s t : State} {h : Handle} {a : Snap} {mask eq : Word} (ha : a.Holds s h t) :
    (t.rdata &&& mask = eq ∧ a.next.Holds s h (t.pollNext h mask eq)) ∨ a.forget.Holds s h (t.pollNext h mask eq) := by
  by_cases hr : t.rdata &&& mask = eq
  · exact .inl ⟨hr, ha.pollNext hr⟩
  · obtain ⟨v, w, -, he⟩ := ha.eng
    rw [State.pollNext_eq, if_neg hr]
    exact .inr { ha with eng := ⟨t.rdata, w, trivial, by rw [PerHandle.get_set_self, he]; rfl⟩ }

/-- What a step of a SEND owes: `SendFails` again, and Transfer Error if the SEND is over. -/
def SendOutcome (h : Handle) (s t : State) : Prop :=
  SendFails h t ∧ ((t.eng.get h).busyCmd = false →
    (t.eng.get h).result = some .transferError ∧ t.results = s.results ++ [(h, .transferError)])

/-- An access that faults or is refused ends the engine's step. -/
theorem engineAccess_of_stopped {h : Handle} {i : Instr} {s u : State} (after : State → State) (hu : exec i s = .next u)
    (hx : u.halted (.engine h) = true ∨ u.refusal.isSome = true) : engineAccess h i s after = .next u := by
  have hor : (u.halted (.engine h) || u.refusal.isSome) = true := by simpa using hx
  simp only [engineAccess, hu, hor, if_true]

/-- A fault or a refusal: nothing but the fault set or the mark is changed, and agent `a` takes no further step. -/
structure Stopped (a : Agent) (s u : State) : Prop where
  cfg : u.cfg = s.cfg
  now : u.now = s.now
  tmr : u.tmr = s.tmr
  ctrl : u.ctrl = s.ctrl
  eng : u.eng = s.eng
  stops : u.halted a = true ∨ u.refusal.isSome = true

theorem Stopped.raise (s : State) (f : Fault) : Stopped s.actor s (s.raise f) :=
  ⟨by simp, by simp, by simp, by simp, by simp, .inl (s.halted_raise_self f)⟩

theorem Stopped.refuse (s : State) (r : Refusal) : Stopped s.actor s (s.refuse r) :=
  ⟨rfl, rfl, rfl, rfl, rfl, .inr rfl⟩

/-- A trigger write starts the transfer or is stopped by a check (R140, R141, R215). -/
theorem startTransfer_cases (h : Handle) (s : State) :
    ((s.ctrl.get h).settled s.now = true ∧ (s.ctrl.get h).flushTx = false ∧ (s.ctrl.get h).flushRx = false ∧
      checkConfig s.cfg (s.ctrl.get h).command1 = none) ∨ Stopped s.actor s (startTransfer h s) := by
  by_cases hset : (s.ctrl.get h).settled s.now = true
  · by_cases hflush : (s.ctrl.get h).flushTx = true ∨ (s.ctrl.get h).flushRx = true
    · rw [startTransfer_flushing hset hflush]
      exact .inr (.raise _ _)
    · simp only [not_or, Bool.not_eq_true] at hflush
      obtain ⟨hft, hfr⟩ := hflush
      cases hc : checkConfig s.cfg (s.ctrl.get h).command1 with
      | none => exact .inl ⟨hset, hft, hfr, rfl⟩
      | some why =>
        rw [startTransfer_unsupported hset hft hfr hc]
        exact .inr (.refuse _ _)
  · rw [startTransfer_unsettled (Bool.not_eq_true _ ▸ hset)]
    exact .inr (.raise _ _)

/-! ## Bits of a read-modify-write in a SEND -/

theorem pioBit_command1Word (stored draw : Word) (b : Bool) :
    pioBit Config.defaults (command1Word Config.defaults stored b draw) = b := by
  rw [pioBit_defaults, getLsbD_command1Word _ _ _ _ (by decide)]
  rfl

theorem txEn_command1Word (stored draw : Word) (b : Bool) :
    txEn Config.defaults (command1Word Config.defaults stored b draw) = txEn Config.defaults stored := by
  rw [txEn_defaults, getLsbD_command1Word _ _ _ _ (by decide), if_neg (by decide), if_neg (by decide), txEn_defaults]

theorem pioBit_rmw (v clr set : Word) :
    pioBit Config.defaults (rmwWord v clr set) = (pioBit Config.defaults v && !clr.getLsbD 31 || set.getLsbD 31) := by
  rw [pioBit_defaults, pioBit_defaults, getLsbD_rmwWord _ _ _ (by decide)]

/-- The TX flush is over when its bit of `FIFO_STATUS` reads 0. -/
theorem flushTx_of_fifoStatusWord {c : Ctrl} {d : Word} (hd : fifoStatusWord Config.defaults c d &&& 0xC000 = 0) :
    c.flushTx = false := by
  have hbit : (fifoStatusWord Config.defaults c d &&& 0xC000).getLsbD 14 = (0#32).getLsbD 14 := by rw [hd]; rfl
  rw [BitVec.getLsbD_and, getLsbD_fifoStatusWord_flag _ _ (by decide), getLsbD_putFlagBits _ _ (by decide)] at hbit
  simpa using hbit

theorem txEn_storeCommand1_rmw (v clr set : Word) :
    txEn Config.defaults (storeCommand1 Config.defaults (rmwWord v clr set)) =
      (txEn Config.defaults v && !clr.getLsbD 11 || set.getLsbD 11) := by
  rw [txEn_defaults, txEn_defaults, storeCommand1_defaults, getLsbD_and_rw _ (by decide), getLsbD_rmwWord _ _ _ (by decide)]

theorem SendAt.at {p : Params} {tmr : TimeBase} {now : Nat} {c : Ctrl} {e : Engine} {n : Nat} (hS : SendAt p tmr now c e)
    (hpc : e.pc = n) : SendAt p tmr now c { e with pc := n } := by
  subst hpc
  exact hS

theorem State.delayNext_of_lt {h : Handle} {n : Nat} {s : State} (hlt : elapsed s.rdata (s.eng.get h).t0 < n) :
    s.delayNext h n = s := if_pos hlt

section SendTurn

variable {s t : State} {h : Handle}

theorem SendOutcome.of_holds {b : Snap} {n : Nat} (hb : b.Holds s h t) (hbusy : b.eng.busyCmd = true) (hpc : b.eng.pc = n)
    (hS : ∀ v w, b.locals v w → SendAt s.cfg s.tmr b.now b.ctrl { b.eng with pc := n, scratch := v, t0 := w }) :
    SendOutcome h s t := by
  subst hpc
  refine ⟨?_, fun hn => ?_⟩
  · obtain ⟨v, w, hl, he⟩ := hb.eng
    rw [sendFails_iff, hb.cfg, hb.tmr, hb.now, hb.ctrl_get, he]
    exact hS v w hl
  · rw [hb.busyCmd, hbusy] at hn
    cases hn

/-- A step that leaves a running SEND where it was. -/
theorem SendOutcome.of_stuck (hen : s.engineEnabled h = true) (heng : t.eng.get h = s.eng.get h)
    (hS : SendAt t.cfg t.tmr t.now (t.ctrl.get h) (s.eng.get h)) : SendOutcome h s t := by
  refine ⟨by rw [sendFails_iff, heng]; exact hS, fun hn => ?_⟩
  rw [heng, State.busyCmd_of_engineEnabled hen] at hn
  cases hn

variable (hr : s.refusal = none) (hact : s.actor = .engine h) (hen : s.engineEnabled h = true)

/-- The step of a SEND at `pc`. -/
theorem send_micro {n : Nat} {m : Micro} (hpc : (s.eng.get h).pc = n + 1) (hcfg : s.cfg = Config.defaults)
    (hop : (s.eng.get h).op = .send)
    (hm : (sendSteps Config.defaults (pack (s.eng.get h).txbuf))[n]? = some m) : (s.eng.get h).micro? s.cfg = some m := by
  simp only [Engine.micro?, hpc, Engine.steps, hop, hcfg]
  exact hm

include hr hact

theorem Takes.holds {b : Snap} (hu : Takes s h (.engine h) (.exact s h) b) (ht : engineStep h s = .next t) : b.Holds s h t := by
  obtain ⟨t', ht', hb⟩ := hu s (Snap.exact_holds h hr) hact
  cases (show engineStep h s = .next t' from ht').symm.trans ht
  exact hb

include hen

theorem pollTransStatus_cases {mask eq : Word} (hm : (s.eng.get h).micro? s.cfg = some (.pollTransStatus mask eq))
    (ht : engineStep h s = .next t) :
    (transStatusWord s.cfg (s.ctrl.get h) s.drawn &&& mask = eq ∧ (Snap.of s h).next.Holds s h t) ∨
      (Snap.of s h).Holds s h t := by
  have hu := (Snap.of_holds h hr).afterDraw.returnRead (transStatusWord s.cfg (s.ctrl.get h) s.drawn)
  have hlive := State.not_halted_of_engineEnabled hen
  have hrun : engineStep h s = .next (State.pollNext h mask eq _) := (engineStep_of_enabled hen hm).trans
    (engineAccess_of_next _ (exec_rdTransStatus (s.mayAccess_engine h hact)) ((hu.halted _).trans hlive) hu.refusal)
  cases hrun.symm.trans ht
  exact hu.pollNext_cases

theorem pollFifoStatus_cases {mask eq : Word} (hm : (s.eng.get h).micro? s.cfg = some (.pollFifoStatus mask eq))
    (ht : engineStep h s = .next t) :
    (fifoStatusWord s.cfg (s.ctrl.get h) s.drawn &&& mask = eq ∧ (Snap.of s h).next.Holds s h t) ∨
      (Snap.of s h).Holds s h t := by
  have hu := (Snap.of_holds h hr).afterDraw.returnRead (fifoStatusWord s.cfg (s.ctrl.get h) s.drawn)
  have hlive := State.not_halted_of_engineEnabled hen
  have hrun : engineStep h s = .next (State.pollNext h mask eq _) := (engineStep_of_enabled hen hm).trans
    (engineAccess_of_next _ (exec_rdFifoStatus (s.mayAccess_engine h hact)) ((hu.halted _).trans hlive) hu.refusal)
  cases hrun.symm.trans ht
  exact hu.pollNext_cases

theorem delayWait_cases {n : Nat} (hm : (s.eng.get h).micro? s.cfg = some (.delayWait n)) (ht : engineStep h s = .next t) :
    (n ≤ elapsed (counterWord s.tmr s.now) (s.eng.get h).t0 ∧ (Snap.exact s h).next.Holds s h t) ∨
      (Snap.exact s h).Holds s h t := by
  by_cases hn : n ≤ elapsed (counterWord s.tmr s.now) (s.eng.get h).t0
  · have hwait : Takes s h (.engine h) (.exact s h) (Snap.exact s h).next :=
      .delayWait (State.not_halted_of_engineEnabled hen) (State.busyCmd_of_engineEnabled hen) hm
        (by rintro v w ⟨-, rfl⟩; exact hn)
    exact .inl ⟨hn, hwait.holds hr hact ht⟩
  · have hu := (Snap.exact_holds h hr).returnRead (counterWord s.tmr s.now)
    have hrun : engineStep h s = .next (State.delayNext h n _) := (engineStep_of_enabled hen hm).trans
      (engineAccess_of_next (i := .rdTmrCntr1us) _ rfl ((hu.halted _).trans (State.not_halted_of_engineEnabled hen)) hu.refusal)
    rw [State.delayNext_of_lt (Nat.not_le.1 hn)] at hrun
    cases hrun.symm.trans ht
    exact .inr hu

variable (hcfg : s.cfg = Config.defaults) (hop : (s.eng.get h).op = .send)
  (hS : SendAt s.cfg s.tmr s.now (s.ctrl.get h) (s.eng.get h)) (ht : engineStep h s = .next t)

include hcfg hop ht

/-! ## The flush (R180 steps 1 to 3) -/

theorem send_waitsReady (hpc : (s.eng.get h).pc = 1) : SendOutcome h s t := by
  have hb : (s.eng.get h).busyCmd = true := State.busyCmd_of_engineEnabled hen
  have hm := send_micro (m := .pollTransStatus 0x40000000 0x40000000) hpc hcfg hop rfl
  obtain ⟨-, hnext⟩ | hstay := pollTransStatus_cases hr hact hen hm ht
  · exact .of_holds (n := 2) hnext hb (congrArg (· + 1) hpc) fun _ _ _ => sendAt_of_pc (.inl (show 2 < 3 by decide))
  · exact .of_holds (n := 1) hstay hb hpc fun _ _ _ => sendAt_of_pc (.inl (show 1 < 3 by decide))

/-- Step 2 starts the flush of an idle controller; on a busy one it faults. -/
theorem send_startsFlush (hpc : (s.eng.get h).pc = 2) : SendOutcome h s t := by
  have hlive := State.not_halted_of_engineEnabled hen
  have hb : (s.eng.get h).busyCmd = true := State.busyCmd_of_engineEnabled hen
  have hm := send_micro (m := .writeFifoStatus 0xC000) hpc hcfg hop rfl
  cases hidle : (s.ctrl.get h).busy with
  | false =>
    have hw := (Takes.writeFifoStatus (a := .exact s h) hlive hb hm hidle).holds hr hact ht
    rw [hcfg] at hw
    refine .of_holds hw hb (congrArg (· + 1) hpc) fun v w _ _ _ => ⟨hidle, .inl ?_⟩
    simp [Snap.exact, Snap.of, Ctrl.startFlush, Config.defaults]
  | true =>
    have hasks : (asksFlush s.cfg 0xC000 && (s.ctrl.get h).busy) = true := by rw [hcfg, hidle]; rfl
    have hfault := exec_wrFifoStatus_busy (s.mayAccess_engine h hact) hasks
    have hstop : engineStep h s = .next (s.raise (.flushWhileBusy h)) := (engineStep_of_enabled hen hm).trans
      (engineAccess_of_stopped _ hfault (.inl (hact ▸ s.halted_raise_self _)))
    cases hstop.symm.trans ht
    exact .of_stuck hen (by rw [State.raise_eng]) (sendAt_of_pc (.inl (by rw [hpc]; decide)))

include hS

/-- The flush is over when its bits read 0: the TX FIFO is empty. -/
theorem send_waitsFlush (hpc : (s.eng.get h).pc = 3) : SendOutcome h s t := by
  have hb : (s.eng.get h).busyCmd = true := State.busyCmd_of_engineEnabled hen
  have hm := send_micro (m := .pollFifoStatus 0xC000 0) hpc hcfg hop rfl
  have hs : (s.ctrl.get h).busy = false ∧ ((s.ctrl.get h).flushTx = true ∨ (s.ctrl.get h).txq = []) := hS.at hpc hb hop
  obtain ⟨hread, hnext⟩ | hstay := pollFifoStatus_cases hr hact hen hm ht
  · obtain ⟨hidle, hflush⟩ := hs
    have hft : (s.ctrl.get h).flushTx = false := by
      rw [hcfg] at hread
      exact flushTx_of_fifoStatusWord hread
    have hq : (s.ctrl.get h).txq = [] := hflush.resolve_left (by rw [hft]; decide)
    exact .of_holds (n := 4) hnext hb (congrArg (· + 1) hpc) fun _ _ _ _ _ => ⟨hidle, hft, hq⟩
  · exact .of_holds (n := 3) hstay hb hpc fun _ _ _ _ _ => hs

/-! ## The preparation of the controller (R180 steps 4 to 10) -/

theorem send_prepares (hpc : 4 ≤ (s.eng.get h).pc ∧ (s.eng.get h).pc ≤ 10) : SendOutcome h s t := by
  have hlive := State.not_halted_of_engineEnabled hen
  have hb : (s.eng.get h).busyCmd = true := State.busyCmd_of_engineEnabled hen
  obtain ⟨n, hn⟩ : ∃ n, (s.eng.get h).pc = n := ⟨_, rfl⟩
  rw [hn] at hpc
  obtain rfl | rfl | rfl | rfl | rfl | rfl | rfl : n = 4 ∨ n = 5 ∨ n = 6 ∨ n = 7 ∨ n = 8 ∨ n = 9 ∨ n = 10 := by omega
  · have hs : SendEmpty (s.ctrl.get h) := hS.at hn hb hop
    have hw := (Takes.readCommand1 (a := .exact s h) hlive hb (send_micro hn hcfg hop rfl)).holds hr hact ht
    have ⟨hidle, _, _⟩ := hs
    refine .of_holds (n := 5) hw hb (congrArg (· + 1) hn) ?_
    rintro _ _ ⟨d, rfl⟩ - -
    exact ⟨hs, by rw [hcfg]; exact (pioBit_command1Word _ _ _).trans hidle⟩
  · obtain ⟨hs, hpio⟩ : SendEmpty (s.ctrl.get h) ∧ pioBit s.cfg (s.eng.get h).scratch = false := hS.at hn hb hop
    have ⟨hidle, _, _⟩ := hs
    have hw := (Takes.writeCommand1 (a := .exact s h) hlive hb (send_micro (m := .writeCommand1 0x3F 7) hn hcfg hop rfl) hidle
      (w := storeCommand1 s.cfg (rmwWord (s.eng.get h).scratch 0x3F 7)) (by
        rintro v w ⟨rfl, -⟩
        rw [hcfg] at hpio ⊢
        exact ⟨by rw [pioBit_rmw, hpio]; rfl, rfl⟩)).holds hr hact ht
    exact .of_holds (n := 6) hw hb (congrArg (· + 1) hn) fun _ _ _ _ _ => hs
  · have hs : SendEmpty (s.ctrl.get h) := hS.at hn hb hop
    have ⟨hidle, _, _⟩ := hs
    have hw := (Takes.writeBlkSize (a := .exact s h) hlive hb (send_micro (m := .writeBlkSize 3) hn hcfg hop rfl)
      hidle).holds hr hact ht
    exact .of_holds (n := 7) hw hb (congrArg (· + 1) hn) fun _ _ _ _ _ => ⟨hs, by rw [hcfg]; rfl⟩
  · obtain ⟨hs, hblk⟩ : SendEmpty (s.ctrl.get h) ∧ (s.ctrl.get h).blkSize = 3 := hS.at hn hb hop
    have hw := (Takes.writeTransStatus (a := .exact s h) hlive hb (send_micro (m := .writeTransStatus 0x40000000) hn hcfg hop
      rfl)).holds hr hact ht
    rw [hcfg, clearRdy_defaults] at hw
    exact .of_holds (n := 8) hw hb (congrArg (· + 1) hn) fun _ _ _ _ _ => ⟨hs, hblk, rfl⟩
  · obtain ⟨hs, hblk, hrdy⟩ : SendEmpty (s.ctrl.get h) ∧ (s.ctrl.get h).blkSize = 3 ∧ (s.ctrl.get h).rdy = false :=
      hS.at hn hb hop
    have ⟨hidle, _, _⟩ := hs
    have hw := (Takes.readCommand1 (a := .exact s h) hlive hb (send_micro hn hcfg hop rfl)).holds hr hact ht
    refine .of_holds (n := 9) hw hb (congrArg (· + 1) hn) ?_
    rintro _ _ ⟨d, rfl⟩ - -
    exact ⟨hs, hblk, hrdy, by rw [hcfg]; exact (pioBit_command1Word _ _ _).trans hidle⟩
  · obtain ⟨hs, hblk, hrdy, hpio⟩ : SendEmpty (s.ctrl.get h) ∧ (s.ctrl.get h).blkSize = 3 ∧ (s.ctrl.get h).rdy = false ∧
      pioBit s.cfg (s.eng.get h).scratch = false := hS.at hn hb hop
    have ⟨hidle, _, _⟩ := hs
    have hw := (Takes.writeCommand1 (a := .exact s h) hlive hb (send_micro (m := .writeCommand1 0 0x800) hn hcfg hop rfl) hidle
      (w := storeCommand1 s.cfg (rmwWord (s.eng.get h).scratch 0 0x800)) (by
        rintro v w ⟨rfl, -⟩
        rw [hcfg] at hpio ⊢
        exact ⟨by rw [pioBit_rmw, hpio]; rfl, rfl⟩)).holds hr hact ht
    refine .of_holds (n := 10) hw hb (congrArg (· + 1) hn) fun _ _ _ _ _ => ⟨hs, hblk, hrdy, ?_⟩
    rw [hcfg]
    exact (txEn_storeCommand1_rmw _ _ _).trans (Bool.or_true _)
  · obtain ⟨⟨hidle, hft, hq⟩, hblk, hrdy, htx⟩ : SendEmpty (s.ctrl.get h) ∧ (s.ctrl.get h).blkSize = 3 ∧
      (s.ctrl.get h).rdy = false ∧ txEn s.cfg (s.ctrl.get h).command1 = true := hS.at hn hb hop
    have hw := (Takes.writeTxFifo (a := .exact s h) hlive hb (send_micro (m := .writeTxFifo _) hn hcfg hop rfl)
      hft).holds hr hact ht
    rw [hcfg, Ctrl.pushTx_of_empty (by exact hq)] at hw
    exact .of_holds (n := 11) hw hb (congrArg (· + 1) hn) fun _ _ _ _ _ => ⟨hidle, rfl, hft, hblk, hrdy, htx⟩

/-! ## Settle and trigger (R180 steps 11 to 14) -/

/-- The state of the controller from the filled FIFO to the trigger. -/
def SendFilled (p : Params) (c : Ctrl) : Prop :=
  c.busy = false ∧ c.txq.length = 1 ∧ c.flushTx = false ∧ c.blkSize = 3 ∧ c.rdy = false ∧ txEn p c.command1 = true

theorem send_settles (hpc : 11 ≤ (s.eng.get h).pc ∧ (s.eng.get h).pc ≤ 13) : SendOutcome h s t := by
  have hlive := State.not_halted_of_engineEnabled hen
  have hb : (s.eng.get h).busyCmd = true := State.busyCmd_of_engineEnabled hen
  obtain ⟨n, hn⟩ : ∃ n, (s.eng.get h).pc = n := ⟨_, rfl⟩
  rw [hn] at hpc
  obtain rfl | rfl | rfl : n = 11 ∨ n = 12 ∨ n = 13 := by omega
  · have hs : SendFilled s.cfg (s.ctrl.get h) := hS.at hn hb hop
    have hw := (Takes.delayStart (a := .exact s h) hlive hb (send_micro hn hcfg hop rfl)).holds hr hact ht
    exact .of_holds (n := 12) hw hb (congrArg (· + 1) hn) fun _ _ _ _ _ => hs
  · have hs : SendFilled s.cfg (s.ctrl.get h) := hS.at hn hb hop
    obtain ⟨-, hnext⟩ | hstay := delayWait_cases hr hact hen (send_micro (m := .delayWait 2) hn hcfg hop rfl) ht
    · exact .of_holds (n := 13) hnext hb (congrArg (· + 1) hn) fun _ _ _ _ _ => hs
    · exact .of_holds (n := 12) hstay hb hn fun _ _ _ _ _ => hs
  · obtain ⟨hidle, hlen, hft, hblk, hrdy, htx⟩ : SendFilled s.cfg (s.ctrl.get h) := hS.at hn hb hop
    have hw := (Takes.readCommand1 (a := .exact s h) hlive hb (send_micro hn hcfg hop rfl)).holds hr hact ht
    refine .of_holds (n := 14) hw hb (congrArg (· + 1) hn) ?_
    rintro _ _ ⟨d, rfl⟩ - -
    refine ⟨hidle, hlen, hft, hblk, hrdy, htx, ?_⟩
    rw [hcfg] at htx ⊢
    exact (txEn_command1Word _ _ _).trans htx

/-- A trigger that a check stops has stored its fields, and the engine stays at the step (R140, R213). -/
theorem send_triggers (hpc : (s.eng.get h).pc = 14) : SendOutcome h s t := by
  have hlive := State.not_halted_of_engineEnabled hen
  have hb : (s.eng.get h).busyCmd = true := State.busyCmd_of_engineEnabled hen
  have hacc := s.mayAccess_engine h hact
  have hm := send_micro (m := .writeCommand1 0 0x80000000) hpc hcfg hop rfl
  obtain ⟨hidle, hlen, hft, hblk, hrdy, htx, hscratch⟩ : (s.ctrl.get h).busy = false ∧ (s.ctrl.get h).txq.length = 1 ∧
    (s.ctrl.get h).flushTx = false ∧ (s.ctrl.get h).blkSize = 3 ∧ (s.ctrl.get h).rdy = false ∧
    txEn s.cfg (s.ctrl.get h).command1 = true ∧ txEn s.cfg (s.eng.get h).scratch = true := hS.at hpc hb hop
  obtain ⟨d, hd⟩ : ∃ d, d = rmwWord (s.eng.get h).scratch 0 0x80000000 := ⟨_, rfl⟩
  have hpio : pioBit s.cfg d = true := by
    rw [hd, hcfg, pioBit_rmw]
    exact Bool.or_true _
  have hstored : txEn s.cfg (storeCommand1 s.cfg d) = true := by
    rw [hcfg] at hscratch
    rw [hd, hcfg, txEn_storeCommand1_rmw, hscratch]
    rfl
  obtain ⟨hset, -, hfr, hc⟩ | hstop := startTransfer_cases h (s.setCtrl h ((s.ctrl.get h).setCommand1 s.cfg d))
  · rw [State.setCtrl_ctrl, PerHandle.get_set_self] at hset hfr hc
    have hw := (Takes.triggerCommand1 (a := .exact s h) (w := storeCommand1 s.cfg d) hlive hb hm hidle (by
      rintro v w ⟨rfl, -⟩
      rw [← hd]
      exact ⟨hpio, rfl⟩) hset hft hfr hc).holds hr hact ht
    have hleft : blockFrames (s.ctrl.get h).blkSize = 4 := by rw [hblk]; rfl
    exact .of_holds (n := 15) hw hb (congrArg (· + 1) hpc) fun _ _ _ _ _ =>
      ⟨Nat.le_refl _, .inl ⟨rfl, hft, hrdy, hstored, .inl ⟨hleft, hlen⟩⟩⟩
  · have hexec := exec_wrCommand1_trigger hacc hidle hpio
    rw [hd] at hexec hstop
    have hrun : engineStep h s = .next _ := (engineStep_of_enabled hen hm).trans
      (engineAccess_of_stopped _ hexec (hact ▸ hstop.stops))
    cases hrun.symm.trans ht
    refine .of_stuck hen (by rw [hstop.eng]; rfl) ?_
    rw [hstop.cfg, hstop.tmr, hstop.now, hstop.ctrl, State.setCtrl_ctrl, PerHandle.get_set_self]
    rw [← hd, Engine.eq_at_pc hpc]
    exact fun _ _ => ⟨hidle, hlen, hft, hblk, hrdy, hstored, hscratch⟩

/-! ## The wait (R180 steps 15 to 18) -/

theorem send_waits (hpc : 15 ≤ (s.eng.get h).pc ∧ (s.eng.get h).pc ≤ 18) : SendOutcome h s t := by
  have hlive := State.not_halted_of_engineEnabled hen
  have hb : (s.eng.get h).busyCmd = true := State.busyCmd_of_engineEnabled hen
  obtain ⟨n, hn⟩ : ∃ n, (s.eng.get h).pc = n := ⟨_, rfl⟩
  rw [hn] at hpc
  obtain rfl | rfl | rfl | rfl : n = 15 ∨ n = 16 ∨ n = 17 ∨ n = 18 := by omega
  · have hs : SendShifting (s.ctrl.get h) s.now := hS.at hn hb hop
    have hw := (Takes.delayStart (a := .exact s h) hlive hb (send_micro hn hcfg hop rfl)).holds hr hact ht
    exact .of_holds (n := 16) hw hb (congrArg (· + 1) hn) fun v w hw _ _ => ⟨hs, s.now, hs.trig, Nat.le_refl _, hw⟩
  · obtain ⟨hs, m, htrig, hm, ht0⟩ : SendShifting (s.ctrl.get h) s.now ∧
      ∃ m, (s.ctrl.get h).tTrig ≤ m ∧ m ≤ s.now ∧ (s.eng.get h).t0 = counterWord s.tmr m := hS.at hn hb hop
    obtain ⟨hover, hnext⟩ | hstay := delayWait_cases hr hact hen (send_micro (m := .delayWait 1) hn hcfg hop rfl) ht
    · obtain ⟨k, hk⟩ := Nat.exists_eq_add_of_le hm
      rw [ht0, hk, elapsed_counterWord] at hover
      have hle := Nat.mod_le k (2 ^ 32)
      exact .of_holds (n := 17) hnext hb (congrArg (· + 1) hn) fun _ _ _ _ _ =>
        ⟨hs, show (s.ctrl.get h).tTrig + 1 ≤ s.now by omega⟩
    · refine .of_holds (n := 16) hstay hb hn ?_
      rintro v w ⟨-, rfl⟩ - -
      exact ⟨hs, m, htrig, hm, ht0⟩
  · obtain ⟨hs, htrig⟩ : SendShifting (s.ctrl.get h) s.now ∧ (s.ctrl.get h).tTrig + 1 ≤ s.now := hS.at hn hb hop
    have hw := (Takes.dummyRead (a := .exact s h) hlive hb (send_micro hn hcfg hop rfl)).holds hr hact ht
    refine .of_holds (n := 18) hw hb (congrArg (· + 1) hn) fun _ _ _ _ _ => ⟨⟨hs.trig, hs.run⟩, ?_⟩
    have hlate : ∀ b, (b && decide (s.now - (s.ctrl.get h).tTrig < 1)) = false := fun b => by
      rw [decide_eq_false (by omega), Bool.and_false]
    exact (congrArg Ctrl.stale (Ctrl.closeStale_eq s.now (s.ctrl.get h))).trans (hlate _)
  · obtain ⟨hs, hstale⟩ : SendShifting (s.ctrl.get h) s.now ∧ (s.ctrl.get h).stale = false := hS.at hn hb hop
    obtain ⟨hread, hnext⟩ | hstay := pollTransStatus_cases hr hact hen
      (send_micro (m := .pollTransStatus 0x40000000 0x40000000) hn hcfg hop rfl) ht
    · have hrdy : (s.ctrl.get h).rdy = true := by
        rw [hcfg] at hread
        exact (transStatusWord_and_rdy (p := Config.defaults) (by decide) hstale _).1 hread
      obtain ⟨-, ⟨-, -, hnot, -⟩ | hended⟩ := hs
      · rw [hnot] at hrdy
        cases hrdy
      · exact .of_holds (n := 19) hnext hb (congrArg (· + 1) hn) fun _ _ _ _ _ => hended
    · exact .of_holds (n := 18) hstay hb hn fun _ _ _ _ _ => ⟨hs, hstale⟩

/-! ## The end (R180 steps 19 to 22, R183) -/

theorem send_checks (hpc : 19 ≤ (s.eng.get h).pc ∧ (s.eng.get h).pc ≤ 21) : SendOutcome h s t := by
  have hlive := State.not_halted_of_engineEnabled hen
  have hb : (s.eng.get h).busyCmd = true := State.busyCmd_of_engineEnabled hen
  obtain ⟨n, hn⟩ : ∃ n, (s.eng.get h).pc = n := ⟨_, rfl⟩
  rw [hn] at hpc
  obtain rfl | rfl | rfl : n = 19 ∨ n = 20 ∨ n = 21 := by omega
  · obtain ⟨hidle, herr⟩ : (s.ctrl.get h).busy = false ∧ (s.ctrl.get h).err = true := hS.at hn hb hop
    have hw := (Takes.readCommand1 (a := .exact s h) hlive hb (send_micro hn hcfg hop rfl)).holds hr hact ht
    refine .of_holds (n := 20) hw hb (congrArg (· + 1) hn) ?_
    rintro _ _ ⟨d, rfl⟩ - -
    exact ⟨hidle, herr, by rw [hcfg]; exact (pioBit_command1Word _ _ _).trans hidle⟩
  · obtain ⟨hidle, herr, hpio⟩ : (s.ctrl.get h).busy = false ∧ (s.ctrl.get h).err = true ∧
      pioBit s.cfg (s.eng.get h).scratch = false := hS.at hn hb hop
    have hw := (Takes.writeCommand1 (a := .exact s h) hlive hb (send_micro (m := .writeCommand1 0x800 0) hn hcfg hop rfl) hidle
      (w := storeCommand1 s.cfg (rmwWord (s.eng.get h).scratch 0x800 0)) (by
        rintro v w ⟨rfl, -⟩
        rw [hcfg] at hpio ⊢
        exact ⟨by rw [pioBit_rmw, hpio]; rfl, rfl⟩)).holds hr hact ht
    exact .of_holds (n := 21) hw hb (congrArg (· + 1) hn) fun _ _ _ _ _ => ⟨hidle, herr⟩
  · obtain ⟨-, herr⟩ : (s.ctrl.get h).busy = false ∧ (s.ctrl.get h).err = true := hS.at hn hb hop
    have hw := (Takes.checkErrReturn_failed (a := .exact s h) hlive hb (send_micro hn hcfg hop rfl)
      (errWord_ne_zero hcfg herr)).holds hr hact ht
    exact .of_holds (n := 22) hw hb (congrArg (· + 1) hn) fun _ _ _ => sendAt_of_pc (.inr (show 21 < 22 by decide))

omit hS in
/-- The last step returns Transfer Error, whatever the controller does. -/
theorem send_fails (hpc : (s.eng.get h).pc = 22) : SendOutcome h s t := by
  have hb : (s.eng.get h).busyCmd = true := State.busyCmd_of_engineEnabled hen
  have hw := (Takes.clearErrAndFail (a := .exact s h) (State.not_halted_of_engineEnabled hen) hb (send_micro hpc hcfg hop rfl)
    (by rw [hcfg, mErrAll_defaults]; rfl)).holds hr hact ht
  refine ⟨?_, fun _ => ⟨hw.engLocal Engine.result fun _ _ _ => rfl, hw.results⟩⟩
  rw [sendFails_iff]
  exact sendAt_of_not_sending (.inl hw.busyCmd)

/-- Every step of a SEND, by its number. -/
theorem send_step {m : Micro} (hm : (s.eng.get h).micro? s.cfg = some m) : SendOutcome h s t := by
  have hfacts := Engine.stepFacts hm
  have hlast : (s.eng.get h).pc ≤ 22 := hfacts.last.trans_eq (by rw [Engine.steps, hop]; rfl)
  have hphase : ∀ n, 1 ≤ n → n ≤ 22 → n = 1 ∨ n = 2 ∨ n = 3 ∨ (4 ≤ n ∧ n ≤ 10) ∨ (11 ≤ n ∧ n ≤ 13) ∨ n = 14 ∨
      (15 ≤ n ∧ n ≤ 18) ∨ (19 ≤ n ∧ n ≤ 21) ∨ n = 22 := by omega
  obtain hpc | hpc | hpc | hpc | hpc | hpc | hpc | hpc | hpc := hphase _ hfacts.first hlast
  · exact send_waitsReady hr hact hen hcfg hop ht hpc
  · exact send_startsFlush hr hact hen hcfg hop ht hpc
  · exact send_waitsFlush hr hact hen hcfg hop hS ht hpc
  · exact send_prepares hr hact hen hcfg hop hS ht hpc
  · exact send_settles hr hact hen hcfg hop hS ht hpc
  · exact send_triggers hr hact hen hcfg hop hS ht hpc
  · exact send_waits hr hact hen hcfg hop hS ht hpc
  · exact send_checks hr hact hen hcfg hop hS ht hpc
  · exact send_fails hr hact hen hcfg hop ht hpc

end SendTurn

/-! ## Every step of every agent -/

/-- A turn that is not the engine's changes its controller by the controller's own steps at most, and time only forward. -/
theorem sendFails_of_others {u : Turn} {h : Handle} {s t : State} (hS : SendFails h s) (hb : (s.eng.get h).busyCmd = true)
    (hu : u ≠ .engine h) (hact : s.actor = turnAgent u) (ht : takeTurn u s = .next t) : SendFails h t := by
  rw [sendFails_iff] at hS ⊢
  have hown := takeTurn_ctrl_of_running hb hu hact ht
  rw [takeTurn_keeps_running hu hb ht]
  by_cases htime : u = .time
  · subst htime
    cases ht
    exact hS.own hown rfl (Nat.le_succ _)
  · have hk := takeTurn_kept htime ht
    rw [hk.cfg]
    exact hS.own hown hk.cntr0 hk.now.ge

theorem EngineMove.op_eq {e e' : Engine} {m : Micro} (hmove : EngineMove e m e') : e'.op = e.op := by
  cases hmove <;> rfl

/-- A turn that finds no running SEND leaves none, or one at its first step. -/
theorem sendFails_of_not_sending {u : Turn} {h : Handle} {s t : State}
    (hn : (s.eng.get h).busyCmd = false ∨ (s.eng.get h).op ≠ .send) (ht : takeTurn u s = .next t) : SendFails h t := by
  rw [sendFails_iff]
  obtain heng | ⟨rfl, m, hen, hm, hrun⟩ | ⟨-, op, n, b, heng, -, -⟩ := takeTurn_eng ht h
  · rw [heng]
    exact sendAt_of_not_sending hn
  · have hb : (s.eng.get h).busyCmd = true := State.busyCmd_of_engineEnabled hen
    have hop : (t.eng.get h).op = (s.eng.get h).op := (runMicro_move hb hrun).op_eq
    refine sendAt_of_not_sending (.inr ?_)
    rw [hop]
    exact hn.resolve_left (by rw [hb]; decide)
  · rw [heng]
    exact sendAt_of_pc (.inl (show 1 < 3 by decide))

/-- A turn that finds a running SEND. -/
theorem sendOutcome_of_sending {u : Turn} {h : Handle} {s t : State} (hcfg : s.cfg = Config.defaults) (hr : s.refusal = none)
    (hact : s.actor = turnAgent u) (hb : (s.eng.get h).busyCmd = true) (hop : (s.eng.get h).op = .send) (hS : SendFails h s)
    (ht : takeTurn u s = .next t) : SendOutcome h s t := by
  by_cases hu : u = .engine h
  · subst hu
    obtain rfl | ⟨m, hen, hm, -⟩ := engineStep_cases ht
    · exact ⟨hS, fun hn => by rw [hb] at hn; cases hn⟩
    · exact send_step hr hact hen hcfg hop ((sendFails_iff h s).1 hS) ht hm
  · refine ⟨sendFails_of_others hS hb hu hact ht, fun hn => ?_⟩
    rw [takeTurn_keeps_running hu hb ht, hb] at hn
    cases hn

/-- Settles O43: `sendOutcome_of_sending` while a SEND runs, `sendFails_of_not_sending` otherwise. -/
theorem noSendSucceeds : Obligations.NoSendSucceeds := by
  refine ⟨fun s h hno => ?_, fun s t h hcfg hS ht => ?_⟩
  · rw [sendFails_iff]
    obtain hidle | hop | hpc := hno
    · exact sendAt_of_not_sending (.inl hidle)
    · exact sendAt_of_not_sending (.inr hop)
    · exact sendAt_of_pc (.inl (Nat.lt_succ_of_le hpc))
  · obtain ⟨hr, hturn⟩ := step_cases ht
    have hS' : SendFails h s.begin := by
      rw [sendFails_iff] at hS ⊢
      simpa using hS
    by_cases hsend : (s.eng.get h).busyCmd = true ∧ (s.eng.get h).op = .send
    · obtain ⟨hb, hop⟩ := hsend
      obtain ⟨hfails, hends⟩ := sendOutcome_of_sending (s := s.begin) (by simpa using hcfg) (by simpa using hr) rfl
        (by simpa using hb) (by simpa using hop) hS' hturn
      rw [State.begin_results] at hends
      exact ⟨hfails, fun _ _ => hends⟩
    · refine ⟨sendFails_of_not_sending (s := s.begin) ?_ hturn, fun hb hop => absurd ⟨hb, hop⟩ hsend⟩
      rw [State.begin_eng, or_iff_not_imp_left, Bool.not_eq_false]
      exact fun hb hop => hsend ⟨hb, hop⟩

end Sys2Proof.Machine
end
